-- ==== Sys2Proof/Word.lean ====
section
/-! DEFINITION. The byte, and the list of bytes that records and slots are. -/

namespace Sys2Proof

/-- One byte as it crosses the command port or the pair link (11_formats.md). -/
abbrev Byte := BitVec 8

/-- A record or slot of the command port: 32 bytes, byte 0 first (R209, R211, R213). -/
abbrev Record := List Byte

end Sys2Proof
end

