-- ==== Sys2Proof/Config.lean ====
section
/-! DEFINITION. What is fixed for the part: the times and sizes the manual states, and the free values it leaves open. -/

namespace Sys2Proof.Config

/-- Names that appear in a response or event and that no list of the manual gives a place (log 7). -/
inductive Unplaced where
  | reasonFull | reasonEntry
  | phaseDeferred | phasePending | phasePausePending | phaseHome
  deriving DecidableEq, Repr

/-- FREE VALUE (log 7, DESIGN CHOICE: the spec gives no code). The byte that codes a name without a place. -/
opaque unplacedCode : Unplaced → Byte

/-- FREE VALUE (log 8, DESIGN CHOICE: the spec does not say how a ramp line between two whole percents is rounded).
Whether the value `num / den`, when it is not whole, is rounded up. -/
opaque lineRoundsUp : Nat → Nat → Bool

/-- FREE VALUE (log 9, DESIGN CHOICE: R68 excludes the failing deck and names no reason). The place in the list
EMPTY, BAD, NODECK, NOLAMP of the reason, given the deck's code and the target frame. -/
opaque takeoverReason : Nat → Nat → Fin 4

/-- FREE VALUE (log 10, DESIGN CHOICE: R7 gives the class by the target's frame, and frame 0 has none). The class of
a fade to EMPTY that no one-shot CUT forces, given the current frame and the session default class. -/
opaque emptyFadeClass : Nat → Nat → Fin 8

/-! Times in milliseconds, each from the rule named. -/

/-- R44. -/
def seatSettleMs : Nat := 1000
/-- R31. -/
def slotPulseWatchMs : Nat := 250
/-- R33. -/
def liftWatchMs : Nat := 500
/-- R35. -/
def dropWatchMs : Nat := 600
/-- R35. -/
def settleMs : Nat := 150
/-- R114. -/
def softStartMs : Nat := 400
/-- R114: the verify time left once the soft start has ended. -/
def verifyMs : Nat := 200
/-- R114. -/
def retryGapMs : Nat := 1000
/-- R110. -/
def restrikeInhibitMs : Nat := 3000
/-- R115. -/
def changerWatchMs : Nat := 2500
/-- R119. -/
def rampStepMs : Nat := 20
/-- R121. -/
def darkFadeMs : Nat := 100
/-- R126. -/
def fanTachWatchMs : Nat := 2000
/-- R126. -/
def fanClearMs : Nat := 5000
/-- R131. -/
def cooldownMs : Nat := 60000
/-- R141. -/
def tachWatchMs : Nat := 2000
/-- R157. -/
def endRunOutMs : Nat := 3000
/-- R188. -/
def irReleaseMs : Nat := 200
/-- R190. -/
def firstRepeatMs : Nat := 800
/-- R190. -/
def nextRepeatMs : Nat := 400
/-- R191. -/
def entryTimerMs : Nat := 4000

/-! Sizes. -/

/-- R211. -/
def outgoingPlaces : Nat := 24
/-- R158. -/
def cueMapEntries : Nat := 256
/-- R5. -/
def maxFrames : Nat := 200
/-- R73. -/
def mismatchSlots : Nat := 16

end Sys2Proof.Config
end

