-- ==== Sys2Proof/Syntax.lean ====
section
/-! DEFINITION. The commands of the part: one constructor per row of spec/opcode_table.json, in its order, with the
operands the row's rule gives it. Argument bytes of host commands are raw, so that a value out of range is refused by
the command itself. -/

namespace Sys2Proof

/-- The two decks (R27), coded A 0, B 1. -/
inductive DeckId where
  | a | b
  deriving DecidableEq, Repr

/-- The other deck. -/
def DeckId.other : DeckId → DeckId
  | .a => .b
  | .b => .a

/-- The tray-size code (R1). -/
inductive TraySize where
  | short | long
  deriving DecidableEq, Repr

/-- The keys of the hand remote (R188); `other` is any other key value an IR code may name. -/
inductive Key where
  | advance | reverse | dark | pause | digit (n : Fin 10) | go | clear | other
  deriving DecidableEq, Repr

/-- The three wired lines (R187). -/
inductive Line where
  | fwd | rev | dark
  deriving DecidableEq, Repr

/-- The inputs that hold a key record and can repeat it (R190). -/
inductive HeldInput where
  | ir | fwd | rev
  deriving DecidableEq, Repr

/-- The commands. -/
inductive Instr where
  /- Transactions of the command port and the resets (R209 to R217). -/
  | writeCmdSlot (slot : Byte) (bytes : List Byte)
  | giveCmd
  | returnRsp
  | readPortStatus
  | partReset
  | powerOnReset
  | takeCommand
  | recordToResponseRing
  /- Host commands: the tag, then the argument bytes. -/
  | slotRead (tag deck first n : Byte)
  | frameRead (tag first n : Byte)
  | editOpen (tag first n : Byte)
  | editSet (tag index field value : Byte)
  | editCommit (tag target : Byte)
  | editCancel (tag : Byte)
  | setFrameCount (tag m : Byte)
  | layout (tag pairing : Byte)
  | deckHome (tag deck : Byte)
  | deckCensus (tag deck : Byte)
  | deckRelease (tag deck : Byte)
  | deckService (tag deck on : Byte)
  | deckClear (tag deck : Byte)
  | deckStatus (tag deck : Byte)
  | setDeckOptions (tag deck censusOnLoad : Byte)
  | slotMark (tag deck position : Byte)
  | slotReload (tag deck position : Byte)
  | compareRead (tag : Byte)
  | advance (tag : Byte)
  | reverse (tag : Byte)
  | goto (tag frame : Byte)
  | dark (tag arg : Byte)
  | setMode (tag mode : Byte)
  | setPairing (tag pairing : Byte)
  | setLoop (tag start stop on : Byte)
  | setDefaultClass (tag c : Byte)
  | setMasterLevel (tag m : Byte)
  | getPosition (tag : Byte)
  | lampOn (tag deck : Byte)
  | lampOff (tag deck : Byte)
  | lampReplaced (tag deck : Byte)
  | lampStatus (tag deck : Byte)
  | thermalRead (tag : Byte)
  | standby (tag : Byte)
  | wake (tag : Byte)
  | tapePlay (tag : Byte)
  | tapeStop (tag : Byte)
  | tapePause (tag : Byte)
  | tapeResume (tag : Byte)
  | tapeWind (tag direction : Byte)
  | tapeZero (tag : Byte)
  | setCueOptions (tag policy chase : Byte)
  | cueTakeHeld (tag : Byte)
  | cueDiscardHeld (tag : Byte)
  | cueInsert (tag kind arg : Byte)
  | cueMapRead (tag : Byte) (first : BitVec 16) (n : Byte)
  | cueMapLoad (tag : Byte) (count : BitVec 16) (seq kind arg frameAfter : Byte)
  | cueMapClear (tag : Byte)
  | soundLevel (tag level : Byte)
  | soundMute (tag on : Byte)
  | tapeStatus (tag : Byte)
  | setPhases (tag : Byte) (phases : List Byte)
  | setAuthority (tag source motion level edit tape : Byte)
  | setRangeLock (tag lo hi invert : Byte)
  | setLockHold (tag on : Byte)
  | arbiterStatus (tag : Byte)
  | setRemote (tag ir wired channel : Byte)
  | setLink (tag station groups : Byte)
  | linkStatus (tag : Byte)
  | abort (tag target : Byte)
  | commandStatus (tag target : Byte)
  /- The arbiter's own step (R177). -/
  | grantOpportunity
  /- Deck events. `index` and `present` are the readings of the index sensor and the slot presence sensor. -/
  | trayInsertion (deck : DeckId) (size : TraySize)
  | seatSettleExpiry (deck : DeckId)
  | trayRemoval (deck : DeckId)
  | slotPulse (deck : DeckId) (index present : Bool)
  | rotateDistanceEnd (deck : DeckId) (present : Bool)
  | indexSearchLimit (deck : DeckId)
  | censusScanComplete (deck : DeckId)
  | slotPulseWatchExpiry (deck : DeckId)
  | gateSensorClears (deck : DeckId)
  | gateSensorMakes (deck : DeckId)
  | liftWatchExpiry (deck : DeckId)
  | dropWatchExpiry (deck : DeckId)
  | settleEnd (deck : DeckId)
  /- Lamp and cooling events. -/
  | softStartEnd (deck : DeckId)
  | filamentCurrentSeen (deck : DeckId)
  | strikeVerifyExpiry (deck : DeckId)
  | retryGapEnd (deck : DeckId)
  | restrikeInhibitExpiry (deck : DeckId)
  | burnout (deck : DeckId)
  | changerConfirm (deck : DeckId)
  | changerConfirmTimeout (deck : DeckId)
  | rampStep
  | rampCompletion (deck : DeckId)
  | darkFadeEnd (deck : DeckId)
  | temperatureReading (sensor : Fin 3) (value : Byte)
  | sensorSilent (sensor : Fin 3)
  | fanTachPulse
  | fanTachTimeout
  | fanFaultClear
  | cooldownCountExpiry
  | holdTimerExpiry
  /- Tape events. -/
  | tapeTachPulse
  | tachWatchExpiry
  | leaderSensorMakes
  | leaderSensorClears
  | tapeRemoval
  | tapeInsertion
  | cueWordDelivered (word : BitVec 24)
  | endRunOutExpiry
  | wordWritingEnd
  | soundFadeStep
  | endFadeStep
  /- Remote events. -/
  | wiredLinePress (line : Line)
  | wiredLineRelease (line : Line)
  | irFirstCode (channel : BitVec 4) (key : Key)
  | irRepeatCode (channel : BitVec 4)
  | irReleaseTimeout
  | keyRepeat (input : HeldInput)
  | entryTimerExpiry
  | showlockKeyChange (on : Bool)
  /- Link events. The rows at a STOP take their frame from the frame assembly. -/
  | linkCodeByte (byte : Byte)
  | linkAdvance
  | linkReverse
  | linkGoto
  | linkDark
  | selectRead
  | cursorSet
  | cursorWrite
  | clearOverrun
  | incompleteFrameDiscard (byStart : Bool)
  | linkRead (address : BitVec 7)
  | readHoldTimeout
  | linkAddressByte (address : BitVec 7)
  | linkArgumentByte (byte : Byte)
  | readAbandoned
  deriving DecidableEq, Repr

end Sys2Proof
end

