-- ==== Sys2Proof/WellFormed.lean ====
section
/-! DEFINITION. Which terms of Instr spell a command of the part. -/

namespace Sys2Proof

/-- A WRITE_CMD_SLOT transaction carries at most the 32 bytes of a slot (R208); with fewer it is cut short. -/
def writeBytesOk (bytes : List Byte) : Bool := bytes.length ≤ 32

/-- SET_PHASES loads sixteen phases (R182). -/
def phasesOk (phases : List Byte) : Bool := phases.length == 16

/-- A sensor delivers whole degrees from 0 to 150 (R123). -/
def temperatureOk (value : Byte) : Bool := value.toNat ≤ 150

/-- The terms that spell a command: every other operand type admits only what the formats can carry. -/
def WellFormed : Instr → Bool
  | .writeCmdSlot _ bytes => writeBytesOk bytes
  | .setPhases _ phases => phasesOk phases
  | .temperatureReading _ value => temperatureOk value
  | .giveCmd | .returnRsp | .readPortStatus | .partReset | .powerOnReset | .takeCommand | .recordToResponseRing => true
  | .slotRead .. | .frameRead .. | .editOpen .. | .editSet .. | .editCommit .. | .editCancel .. => true
  | .setFrameCount .. | .layout .. | .deckHome .. | .deckCensus .. | .deckRelease .. | .deckService .. => true
  | .deckClear .. | .deckStatus .. | .setDeckOptions .. | .slotMark .. | .slotReload .. | .compareRead .. => true
  | .advance .. | .reverse .. | .goto .. | .dark .. | .setMode .. | .setPairing .. | .setLoop .. => true
  | .setDefaultClass .. | .setMasterLevel .. | .getPosition .. | .lampOn .. | .lampOff .. | .lampReplaced .. => true
  | .lampStatus .. | .thermalRead .. | .standby .. | .wake .. | .tapePlay .. | .tapeStop .. | .tapePause .. => true
  | .tapeResume .. | .tapeWind .. | .tapeZero .. | .setCueOptions .. | .cueTakeHeld .. | .cueDiscardHeld .. => true
  | .cueInsert .. | .cueMapRead .. | .cueMapLoad .. | .cueMapClear .. | .soundLevel .. | .soundMute .. => true
  | .tapeStatus .. | .setAuthority .. | .setRangeLock .. | .setLockHold .. | .arbiterStatus .. => true
  | .setRemote .. | .setLink .. | .linkStatus .. | .abort .. | .commandStatus .. | .grantOpportunity => true
  | .trayInsertion .. | .seatSettleExpiry .. | .trayRemoval .. | .slotPulse .. | .rotateDistanceEnd .. => true
  | .indexSearchLimit .. | .censusScanComplete .. | .slotPulseWatchExpiry .. | .gateSensorClears .. => true
  | .gateSensorMakes .. | .liftWatchExpiry .. | .dropWatchExpiry .. | .settleEnd .. | .softStartEnd .. => true
  | .filamentCurrentSeen .. | .strikeVerifyExpiry .. | .retryGapEnd .. | .restrikeInhibitExpiry .. => true
  | .burnout .. | .changerConfirm .. | .changerConfirmTimeout .. | .rampStep | .rampCompletion .. => true
  | .darkFadeEnd .. | .sensorSilent .. | .fanTachPulse | .fanTachTimeout | .fanFaultClear => true
  | .cooldownCountExpiry | .holdTimerExpiry | .tapeTachPulse | .tachWatchExpiry | .leaderSensorMakes => true
  | .leaderSensorClears | .tapeRemoval | .tapeInsertion | .cueWordDelivered .. | .endRunOutExpiry => true
  | .wordWritingEnd | .soundFadeStep | .endFadeStep | .wiredLinePress .. | .wiredLineRelease .. => true
  | .irFirstCode .. | .irRepeatCode .. | .irReleaseTimeout | .keyRepeat .. | .entryTimerExpiry => true
  | .showlockKeyChange .. | .linkCodeByte .. | .linkAdvance | .linkReverse | .linkGoto | .linkDark => true
  | .selectRead | .cursorSet | .cursorWrite | .clearOverrun | .incompleteFrameDiscard .. | .linkRead .. => true
  | .readHoldTimeout | .linkAddressByte .. | .linkArgumentByte .. | .readAbandoned => true

end Sys2Proof
end

