-- ==== Sys2Proof/Decode.lean ====
section
/-! DEFINITION. Commands spelled by a word: the opcode table gives no row any bits, so no word spells a command.
(Host commands are spelled by the bytes of a command slot, which TAKE_COMMAND reads; Machine/Take.lean.) -/

namespace Sys2Proof

/-- The command that the `nbits` low bits of `w` spell by the bits of spec/opcode_table.json: none, for every row has
an empty "fields" list and no "fixed" bits. -/
def decodeTableWord (_nbits _w : Nat) : Option Instr := none

end Sys2Proof
end

