-- ==== Sys2Proof/Machine/State.lean ====
section
/-! DEFINITION. The state of the part, block by block, as plain data, and its value after a power-on reset with every
sensor open (R29, R12, R110, R170, R177 to R181, R193, R194, R209 to R214). -/

namespace Sys2Proof.Machine

/-! ## Names shared by the blocks -/

/-- Status codes in the order of section 10.8. -/
inductive Status where
  | ok | aborted | atStart | noAuthority | wrongMode | wrongState | wrongPowerState | locked | rangeLocked | inUse
  | badArgument | deckUnavailable | jamPresent | thermal | notFound | fault
  deriving DecidableEq, Repr

/-- A taken command that is owed an answer: its identity inside the part (tags are not unique, 10.6) and its tag. -/
structure Ticket where
  id : Nat
  tag : Byte
  deriving DecidableEq, Repr

/-- The four request sources (R11). -/
inductive Source where
  | cport | link | remote | cue
  deriving DecidableEq, Repr

/-- Kinds of presentation request, in the order of R11. -/
inductive Kind where
  | advance | reverse | goto | dark | chase | cut | dissolve | level
  deriving DecidableEq, Repr

/-- A request entry (R171) and the granted request (R11). -/
structure Request where
  source : Source
  kind : Kind
  arg : Option Nat
  ticket : Option Ticket
  deriving DecidableEq, Repr

/-! ## Deck controllers (R27 to R31) -/

/-- R2. -/
inductive Presence where
  | unknown | present | empty
  deriving DecidableEq, Repr

/-- A slot record (R2); the condition is derived from `faults`. -/
structure SlotRecord where
  presence : Presence
  faults : Nat
  pass : Option Nat
  deriving DecidableEq, Repr

/-- A tray map: tray size T and the records of positions 0..T−1 (R1). -/
structure TrayMap where
  size : Nat
  slots : List SlotRecord
  deriving DecidableEq, Repr

/-- The gate attribute of an IDLE deck (R27). -/
inductive Gate where
  | loaded (slot : Nat)
  | empty
  deriving DecidableEq, Repr

/-- Fault kinds held in FAULT (R27). -/
inductive FaultKind where
  | jam | drive | index
  deriving DecidableEq, Repr

/-- R28. -/
inductive OpKind where
  | change | home | census | release
  deriving DecidableEq, Repr

/-- R28. -/
inductive Phase where
  | lift | rotate | drop | settle | seekIndex | scan | unlatched
  deriving DecidableEq, Repr

/-- R28. -/
inductive Requester where
  | presentation
  | host (ticket : Ticket)
  | internal
  deriving DecidableEq, Repr

/-- Direction of rotation (R30). -/
inductive Direction where
  | forward | backward
  deriving DecidableEq, Repr

/-- What an operation suspended behind an automatic HOME keeps (R66). -/
structure Suspended where
  kind : OpKind
  target : Nat
  requester : Requester
  stage : Nat
  deriving DecidableEq, Repr

/-- The operation record (R28) and what its rules make a running operation remember. -/
structure Operation where
  kind : OpKind
  target : Nat
  phase : Phase
  /-- ladder stage 0..5 -/
  stage : Nat
  requester : Requester
  /-- the drive, while it runs (R34) -/
  drive : Option Direction
  /-- time left of the watch that runs (R31, R33, R35), in ms -/
  watch : Option Nat
  /-- slot pulses taken in SEEK_INDEX (R40) -/
  pulses : Nat
  /-- steps left in SCAN (R41) -/
  scanLeft : Nat
  /-- slips in SCAN (R41) -/
  scanSlips : Nat
  /-- the automatic HOME of this ROTATE has been used (R67) -/
  autoHomeUsed : Bool
  suspended : Option Suspended
  /-- a STOP is held (R38) -/
  stopHeld : Bool
  /-- the held STOP came as a retarget beyond the tray and answers EMPTY_SLOT (R39) -/
  stopEmpty : Bool
  /-- a held retarget (R39, R63) -/
  retargetHeld : Option Nat
  /-- a held ABORT (R55, R67) -/
  abortHeld : Bool
  /-- the operation began from UNHOMED (R40) -/
  fromUnhomed : Bool
  /-- a part reset has dropped the record; only the phase runs to its end (R46) -/
  resetting : Bool
  deriving DecidableEq, Repr

/-- The five states (R27). -/
inductive DeckState where
  | absent
  /-- with the settle time left, in ms (R44) -/
  | unhomed (settle : Nat)
  | idle (gate : Gate)
  | busy (op : Operation)
  | fault (kind : FaultKind)
  deriving DecidableEq, Repr

/-- A deck controller: the values of R29, the tray map and the deck's pins. -/
structure Deck where
  state : DeckState
  position : Option Nat
  inService : Bool
  censusOnLoad : Bool
  censusOwed : Bool
  slips : Nat
  pass : Nat
  latchClosed : Bool
  map : Option TrayMap
  /-- pin: the gate sensor reads made -/
  gateMade : Bool
  /-- pin: the tray-seated sensor is closed -/
  seated : Bool
  /-- pin: the tray-size code -/
  sizeCode : TraySize
  /-- pin: the index sensor as last sampled -/
  indexMade : Bool
  /-- pin: the slot presence sensor as last sampled -/
  slotPresent : Bool
  deriving DecidableEq, Repr

/-! ## Lamp and cooling unit (R110 to R131) -/

/-- R110. -/
inductive Filament where
  | primary | spare
  deriving DecidableEq, Repr

/-- R110. -/
inductive Health where
  | good | failed
  deriving DecidableEq, Repr

/-- The steps of a strike attempt (R114). -/
inductive StrikeStep where
  | softStart | verify | gap
  deriving DecidableEq, Repr

/-- What follows a changer's move (R115, R127). -/
inductive SwapEnd where
  | strike | off | relight
  deriving DecidableEq, Repr

/-- Lamp states (R110, R111). -/
inductive LampState where
  | off
  | inhibit
  /-- the step, its time left in ms, and whether the attempt ends with the lamp put out (R114) -/
  | striking (step : StrikeStep) (left : Nat) (offAfter : Bool)
  | lit
  /-- what follows the move, and the confirmation watch in ms (R115) -/
  | swapping (after : SwapEnd) (watch : Nat)
  | dead
  deriving DecidableEq, Repr

/-- A ramp's line: from `start` to `target` over `total` ms, with `left` ms to go (R117, R119). -/
structure Ramp where
  start : Nat
  target : Nat
  total : Nat
  left : Nat
  deriving DecidableEq, Repr

/-- A dark fade: a line from `start` to 0 with `left` of its 100 ms to go (R121). -/
structure Fade where
  start : Nat
  left : Nat
  deriving DecidableEq, Repr

/-- The lamp record (R110) and the commands whose answers the lamp withholds (R134, R135). -/
structure Lamp where
  state : LampState
  active : Filament
  primary : Health
  spare : Health
  commanded : Nat
  granted : Nat
  output : Nat
  ramp : Option Ramp
  claim : Bool
  fade : Option Fade
  attempts : Nat
  relightOwed : Bool
  /-- LAMP_REPLACED took the lamp out of DEAD and it has not been lit since (R136) -/
  unlit : Bool
  /-- restrike inhibit, time left in ms -/
  inhibit : Option Nat
  onWaiting : List Ticket
  offWaiting : List Ticket
  deriving DecidableEq, Repr

/-- A temperature sensor (R123). -/
structure Sensor where
  reading : Option Nat
  silent : Bool
  /-- time since its last reading, or since the reset, in ms -/
  quiet : Nat
  deriving DecidableEq, Repr

/-- Thermal zones (R124). -/
inductive Zone where
  | normal | warm | hot | critical
  deriving DecidableEq, Repr

/-- Fan speeds (R125). -/
inductive Fan where
  | off | low | medium | high | full
  deriving DecidableEq, Repr

/-- Power states (R129). -/
inductive Power where
  | active | cooldown | standby
  deriving DecidableEq, Repr

/-- What the LCU keeps beside the two lamp records. -/
structure Lcu where
  priority : DeckId
  sensor0 : Sensor
  sensor1 : Sensor
  sensor2 : Sensor
  readingZone : Zone
  fan : Fan
  /-- fan tach watch, time left in ms (R126) -/
  fanWatch : Option Nat
  tachSeen : Bool
  fanFault : Bool
  /-- time counted toward the clearing of a fan fault, in ms -/
  clearing : Nat
  startupHold : Bool
  power : Power
  standbyWaiting : List Ticket
  /-- time since the last extinguish, in ms -/
  sinceExtinguish : Nat
  deriving DecidableEq, Repr

/-! ## Presentation controller (R5 to R12, R19, R72 to R100) -/

/-- A frame's dissolve class: 0..7 or DEFAULT (R6). -/
inductive FrameClass where
  | num (n : Nat)
  | default
  deriving DecidableEq, Repr

/-- A frame record (R6). -/
structure Frame where
  deck : DeckId
  slot : Nat
  cls : FrameClass
  level : Nat
  hold : Nat
  skip : Bool
  tapeHold : Bool
  deriving DecidableEq, Repr

/-- Service states in the order of R9. -/
inductive Service where
  | normal | twin | darkEmpty | darkBad | darkNodeck | darkNolamp
  deriving DecidableEq, Repr

/-- Reasons for excluding a deck, in the order of R81. -/
inductive Reason where
  | empty | bad | nodeck | nolamp
  deriving DecidableEq, Repr

/-- Presentation states in the order of R9. -/
inductive PresState where
  | empty | showing | pending | crossing | changing | frozen
  deriving DecidableEq, Repr

/-- Show modes (R75). -/
inductive Mode where
  | setup | manual | show | program
  deriving DecidableEq, Repr

/-- Pairing modes (R76). -/
inductive Pairing where
  | single | alternate | mirror
  deriving DecidableEq, Repr

/-- The hold timer (R9, R89), running with its time left in ms. -/
inductive HoldTimer where
  | absent
  | running (left : Nat)
  | expired
  deriving DecidableEq, Repr

/-- The on-screen deck and its serving slot: both present or both absent (R9). -/
structure Screen where
  deck : DeckId
  slot : Nat
  deriving DecidableEq, Repr

/-- R11. -/
inductive PreloadState where
  | inFlight | ready | failed
  deriving DecidableEq, Repr

/-- The preload record (R11). -/
structure Preload where
  frame : Nat
  deck : DeckId
  state : PreloadState
  deriving DecidableEq, Repr

/-- A CROSSING (R85, R122): its lamps, the ramps still awaited, the service state of a dark arrival, and the hold. -/
structure Crossing where
  outgoing : Option DeckId
  incoming : Option DeckId
  awaitOut : Bool
  awaitIn : Bool
  dark : Option Service
  held : Bool
  deriving DecidableEq, Repr

/-- Where a transition stands: PENDING, CROSSING, the three steps of CHANGING (R86), and CHANGING while it is
cancelled (R97). -/
inductive Stand where
  | pending
  | crossing (c : Crossing)
  | fadeOut | change | fadeIn
  | cancelFade | returnChange | returnFade
  deriving DecidableEq, Repr

/-- A transition in progress (R15, R81, R83). -/
structure Transition where
  target : Nat
  cls : Nat
  stand : Stand
  excludedA : Option Reason
  excludedB : Option Reason
  serving : Option DeckId
  /-- the serving deck was chosen by a re-selection or takeover (R84) -/
  reselected : Bool
  /-- R68 -/
  tookOver : Bool
  /-- past the point of no return (R96) -/
  past : Bool
  /-- the lamp of a CHANGING serving deck became DEAD while its CHANGE, or the CHANGE of its return, ran (R95, R97) -/
  lampLost : Bool
  /-- when FROZEN was entered, the order to the serving deck was held behind a STOP to an older CHANGE, whose report says
  the deck's state alone (R84, R94, R98) -/
  behindStop : Bool
  deriving DecidableEq, Repr

/-- The census mismatch list (R73). -/
structure Compare where
  passA : Nat
  passB : Nat
  total : Nat
  overflow : Bool
  slots : List Nat
  deriving DecidableEq, Repr

/-- The edit buffer (R19). -/
inductive EditBuffer where
  | closed
  | opened (f : Nat) (run : List Frame)
  | deferred (f : Nat) (run : List Frame) (target : Nat) (ticket : Ticket)
  deriving DecidableEq, Repr

/-- The presentation controller's records. -/
structure Pres where
  frames : List Frame
  current : Nat
  screen : Option Screen
  service : Service
  blackout : Bool
  master : Nat
  defaultClass : Nat
  /-- the one-shot override CUT is present -/
  cut : Bool
  hold : HoldTimer
  loopStart : Nat
  loopEnd : Nat
  loopOn : Bool
  mode : Mode
  pairing : Pairing
  granted : Option Request
  /-- the lamp whose ramp ends the level request in progress (R90, R91) -/
  levelWait : Option DeckId
  /-- the granted DARK turned blackout on (R78) -/
  turnedOn : Bool
  preload : Option Preload
  /-- the preload's order is held behind a STOP (R92) -/
  preloadHeld : Bool
  transition : Option Transition
  frozen : Bool
  /-- a STOP sent to the deck is outstanding (R84) -/
  stopA : Bool
  stopB : Bool
  /-- the order held for the deck behind that STOP (R84) -/
  orderA : Option Nat
  orderB : Option Nat
  /-- the deck has completed a census since its insertion (R72) -/
  censusA : Bool
  censusB : Bool
  mismatch : Option Compare
  edit : EditBuffer
  deriving DecidableEq, Repr

/-! ## Request arbiter (R171 to R181) -/

/-- A row of the authority table (R179). -/
structure Authority where
  motion : Bool
  level : Bool
  edit : Bool
  tape : Bool
  deriving DecidableEq, Repr

/-- The authority table (R179). -/
structure AuthorityTable where
  cport : Authority
  link : Authority
  remote : Authority
  cue : Authority
  deriving DecidableEq, Repr

/-- The range lock (R180). -/
structure RangeLock where
  lo : Nat
  hi : Nat
  invert : Bool
  deriving DecidableEq, Repr

/-- A pending phase table and the command waiting on it (R178, R182). -/
structure PendingPhases where
  table : List (Option Source)
  ticket : Ticket
  deriving DecidableEq, Repr

/-- A command waiting on the pending authority table, with the source whose row it wrote (R183). -/
structure AuthorityWaiter where
  ticket : Ticket
  source : Source
  deriving DecidableEq, Repr

/-- A pending authority table and the commands waiting on it (R178, R183). -/
structure PendingAuthority where
  table : AuthorityTable
  waiting : List AuthorityWaiter
  deriving DecidableEq, Repr

/-- A pending range lock and the command waiting on it (R178, R184). -/
structure PendingLock where
  lock : RangeLock
  ticket : Ticket
  deriving DecidableEq, Repr

/-- The arbiter's records. -/
structure Arbiter where
  cport : List Request
  link : List Request
  remote : List Request
  cue : List Request
  /-- sixteen phases; `none` is EMPTY -/
  phases : List (Option Source)
  pointer : Nat
  authority : AuthorityTable
  lock : RangeLock
  pendingPhases : Option PendingPhases
  pendingAuthority : Option PendingAuthority
  pendingLock : Option PendingLock
  lockHold : Bool
  /-- pin: the SHOWLOCK key reads on -/
  key : Bool
  deriving DecidableEq, Repr

/-! ## Tape unit (R139 to R170) -/

/-- R139. -/
inductive ResumeTarget where
  | playing | recording
  deriving DecidableEq, Repr

/-- Transport states in the order of R139; PAUSED with its resume target. -/
inductive Transport where
  | noTape | stopped | playing | recording
  | paused (resume : ResumeTarget)
  | windingFwd | windingRev
  deriving DecidableEq, Repr

/-- R142. -/
inductive Leader where
  | none | head | tail
  deriving DecidableEq, Repr

/-- Cue kinds (R149). -/
inductive CueKind where
  | advance | reverse | goto | cut | dissolve | level | hold | mute | unmute | mark | fin
  deriving DecidableEq, Repr

/-- R151. -/
inductive CuePolicy where
  | follow | stop
  deriving DecidableEq, Repr

/-- The END run-out: time left in ms and the steps the output has still to fall (R157, R166). -/
structure RunOut where
  left : Nat
  falls : Nat
  deriving DecidableEq, Repr

/-- A recording pass (R161): whether a word has been written in it, and the next record sequence. -/
structure Pass where
  wrote : Bool
  next : Option Nat
  deriving DecidableEq, Repr

/-- The held cue (R152). -/
structure HeldCue where
  kind : CueKind
  arg : Nat
  seq : Nat
  count : Nat
  deriving DecidableEq, Repr

/-- The last mark (R156). -/
structure Mark where
  n : Nat
  count : Nat
  deriving DecidableEq, Repr

/-- The last cue result (R154). -/
structure CueResult where
  kind : Kind
  status : Status
  deriving DecidableEq, Repr

/-- An owed cue (R161), with the CUE_INSERT that owes it. -/
structure OwedCue where
  kind : CueKind
  arg : Nat
  frameAfter : Nat
  ticket : Option Ticket
  deriving DecidableEq, Repr

/-- The word being written (R162). -/
structure WritingWord where
  cue : OwedCue
  seq : Nat
  /-- the 24 bits it puts on the tape, with the check the encoder computed (R149, R219) -/
  word : BitVec 24
  start : Nat
  inMap : Bool
  /-- counts the writing has still to take -/
  countsLeft : Nat
  deriving DecidableEq, Repr

/-- An entry of the cue map (R158). -/
structure CueEntry where
  count : Nat
  seq : Nat
  kind : CueKind
  arg : Nat
  frameAfter : Nat
  deriving DecidableEq, Repr

/-- The tape unit's records. -/
structure Tape where
  transport : Transport
  pausePending : Bool
  pauseWaiting : List Ticket
  runOut : Option RunOut
  count : Nat
  leader : Leader
  wound : Bool
  pass : Option Pass
  /-- tach watch, time left in ms (R141) -/
  watch : Option Nat
  /-- the motion command that waits for its first tach pulse (R143) -/
  motionWaiting : Option Ticket
  /-- expected sequence; `none` is ANY (R151) -/
  expected : Option Nat
  policy : CuePolicy
  chase : Bool
  held : Option HeldCue
  mark : Option Mark
  lastCue : Option CueResult
  taken : Nat
  duplicates : Nat
  missed : Nat
  bad : Nat
  undelivered : Nat
  writing : Option WritingWord
  holding : Option OwedCue
  map : List CueEntry
  setLevel : Nat
  mute : Bool
  output : Nat
  /-- pin: the tape-present sensor is closed -/
  present : Bool
  /-- pin: the leader sensor reads made -/
  leaderMade : Bool
  deriving DecidableEq, Repr

/-! ## Remote receiver (R187 to R193) -/

/-- A held-key record (R190): the key, whether it repeats, the time to its next repeat in ms, and whether a drop for
want of room has been reported in this hold (R189). -/
structure HeldKey where
  key : Key
  repeats : Bool
  left : Nat
  dropReported : Bool
  deriving DecidableEq, Repr

/-- The remote receiver's values. -/
structure Remote where
  irEnable : Bool
  wiredEnable : Bool
  channel : Nat
  digits : List (Fin 10)
  /-- entry timer, time left in ms -/
  entryTimer : Option Nat
  ir : Option HeldKey
  /-- time to the release of the held IR key, in ms (R188) -/
  irRelease : Option Nat
  fwd : Option HeldKey
  rev : Option HeldKey
  darkHeld : Bool
  /-- pins: the wired lines after the debounce -/
  fwdActive : Bool
  revActive : Bool
  darkActive : Bool
  deriving DecidableEq, Repr

/-! ## Pair link port (R194) -/

/-- How a write frame being assembled stands: accepted so far; NACKed and counting a format error at its STOP; or
NACKed by R197 without one. -/
inductive FrameState where
  | accepted | malformed | refused
  deriving DecidableEq, Repr

/-- The frame assembly (R194, R196). -/
structure Assembly where
  address : Nat
  bytes : List Byte
  state : FrameState
  deriving DecidableEq, Repr

/-- R194. -/
inductive ReadSelect where
  | status | cursor
  deriving DecidableEq, Repr

/-- Cursor tables in the order of R203. -/
inductive CursorTable where
  | frame | slotA | slotB | position
  deriving DecidableEq, Repr

/-- The cursor (R203): the field is its place in the table's list. -/
structure Cursor where
  table : CursorTable
  index : Nat
  field : Nat
  step : Bool
  deriving DecidableEq, Repr

/-- R203, R205. -/
inductive CursorOp where
  | set | write
  deriving DecidableEq, Repr

/-- The last cursor result, with table, index and field as sent (R203, R205). -/
structure CursorResult where
  op : CursorOp
  table : Nat
  index : Nat
  field : Nat
  status : Status
  deriving DecidableEq, Repr

/-- The last request result (R198). -/
structure LinkResult where
  kind : Kind
  status : Status
  deriving DecidableEq, Repr

/-- The pair link port's values. `queued` counts the port's outstanding requests. -/
structure Link where
  station : Nat
  group8 : Bool
  group9 : Bool
  group10 : Bool
  group11 : Bool
  assembly : Option Assembly
  overrun : Bool
  readSelect : ReadSelect
  cursor : Cursor
  cursorResult : Option CursorResult
  requestResult : Option LinkResult
  outstanding : Nat
  formatErrors : Nat
  /-- time a held read has waited, in ms (R201) -/
  readHold : Option Nat
  /-- the acknowledge last given: `true` ACK, `false` NACK (log 32) -/
  ack : Option Bool
  /-- the reply last built; past its end every byte reads FFh (log 32) -/
  reply : List Byte
  deriving DecidableEq, Repr

/-! ## Command port (R208 to R214) -/

/-- A command slot (R209). -/
structure CmdSlot where
  bytes : Record
  partOwned : Bool
  deriving DecidableEq, Repr

/-- A response slot (R213). -/
structure RspSlot where
  bytes : Record
  partOwned : Bool
  filled : Bool
  deriving DecidableEq, Repr

/-- A command taken and not yet answered, with the places reserved for it (R211, R215). -/
structure Taken where
  ticket : Ticket
  code : Nat
  places : Nat
  deriving DecidableEq, Repr

/-- The command port's records. -/
structure Port where
  cmd : List CmdSlot
  give : Fin 8
  take : Fin 8
  /-- the notify request flag of the slot given last (R214) -/
  lastNotify : Bool
  rsp : List RspSlot
  fill : Fin 8
  ret : Fin 8
  out : List Record
  /-- earliest taken first -/
  unanswered : List Taken
  lost : Nat
  cmdSpace : Bool
  rspReady : Bool
  nextId : Nat
  /-- what the last transaction shifted out (log 32) -/
  dataOut : List Byte
  deriving DecidableEq, Repr

/-! ## The whole state -/

/-- Every block but the command port and the arbiter. -/
structure Blocks where
  deckA : Deck
  deckB : Deck
  lampA : Lamp
  lampB : Lamp
  lcu : Lcu
  pres : Pres
  tape : Tape
  remote : Remote
  link : Link
  deriving DecidableEq, Repr

/-- The state of the part and the queue of the commands that wait. -/
structure State where
  port : Port
  arb : Arbiter
  blk : Blocks
  pending : List Instr
  deriving DecidableEq, Repr

/-- Why the machine stops. No rule of the spec stops the part. -/
inductive Fault where
  /-- Raised by WRITE_CMD_SLOT, SET_PHASES and TEMPERATURE_READING on a term that spells no command (WellFormed is
  false). Safe: no event of the part is such a term (log 12). -/
  | illFormed
  deriving DecidableEq, Repr

/-- Why the model gives a command no meaning. -/
inductive Refusal where
  /-- Raised by exec for a command that has no meaning yet. Safe. No arm of exec raises it. -/
  | notModelled (mnemonic : String)
  deriving DecidableEq, Repr

/-! ## Reset values -/

/-- A slot's 32 bytes before anything has written them (log 11). -/
def zeroRecord : Record := List.replicate 32 0

/-- R209 to R214, R217. -/
def Port.reset : Port where
  cmd := List.replicate 8 { bytes := zeroRecord, partOwned := false }
  give := 0
  take := 0
  lastNotify := false
  rsp := List.replicate 8 { bytes := zeroRecord, partOwned := false, filled := false }
  fill := 0
  ret := 0
  out := []
  unanswered := []
  lost := 0
  cmdSpace := false
  rspReady := false
  nextId := 0
  dataOut := []

/-- The default phase table (R177). -/
def defaultPhases : List (Option Source) :=
  let four := [some .cport, some .cue, some .link, some .remote]
  four ++ four ++ four ++ four

/-- The default authority table (R179). -/
def AuthorityTable.reset : AuthorityTable where
  cport := { motion := true, level := true, edit := true, tape := true }
  link := { motion := true, level := true, edit := false, tape := true }
  remote := { motion := true, level := true, edit := false, tape := true }
  cue := { motion := true, level := true, edit := false, tape := true }

/-- R171, R177, R178, R179, R180, R181, with the key as it stands. -/
def Arbiter.reset (key : Bool) : Arbiter where
  cport := []
  link := []
  remote := []
  cue := []
  phases := defaultPhases
  pointer := 0
  authority := AuthorityTable.reset
  lock := { lo := 0, hi := 0, invert := false }
  pendingPhases := none
  pendingAuthority := none
  pendingLock := none
  lockHold := false
  key := key

/-- A deck with no tray after a power-on reset (R29), with every pin open (log 11). -/
def Deck.reset : Deck where
  state := .absent
  position := none
  inService := true
  censusOnLoad := true
  censusOwed := false
  slips := 0
  pass := 0
  latchClosed := false
  map := none
  gateMade := false
  seated := false
  sizeCode := .short
  indexMade := false
  slotPresent := false

/-- R110. -/
def Lamp.reset : Lamp where
  state := .off
  active := .primary
  primary := .good
  spare := .good
  commanded := 0
  granted := 0
  output := 0
  ramp := none
  claim := false
  fade := none
  attempts := 0
  relightOwed := false
  unlit := false
  inhibit := some Config.restrikeInhibitMs
  onWaiting := []
  offWaiting := []

/-- R123. -/
def Sensor.reset : Sensor where
  reading := none
  silent := false
  quiet := 0

/-- R117, R123 to R131. -/
def Lcu.reset : Lcu where
  priority := .a
  sensor0 := Sensor.reset
  sensor1 := Sensor.reset
  sensor2 := Sensor.reset
  readingZone := .normal
  fan := .full
  fanWatch := some Config.fanTachWatchMs
  tachSeen := false
  fanFault := false
  clearing := 0
  startupHold := true
  power := .active
  standbyWaiting := []
  sinceExtinguish := 0

/-- R5, R12, R19, R72, R73. -/
def Pres.reset : Pres where
  frames := []
  current := 0
  screen := none
  service := .normal
  blackout := false
  master := 100
  defaultClass := 2
  cut := false
  hold := .absent
  loopStart := 1
  loopEnd := 1
  loopOn := false
  mode := .setup
  pairing := .alternate
  granted := none
  levelWait := none
  turnedOn := false
  preload := none
  preloadHeld := false
  transition := none
  frozen := false
  stopA := false
  stopB := false
  orderA := none
  orderB := none
  censusA := false
  censusB := false
  mismatch := none
  edit := .closed

/-- R170, with the pins as they stand. -/
def Tape.reset (present leaderMade : Bool) : Tape where
  transport := if present then .stopped else .noTape
  pausePending := false
  pauseWaiting := []
  runOut := none
  count := 0
  leader := if leaderMade then .head else .none
  wound := true
  pass := none
  watch := none
  motionWaiting := none
  expected := none
  policy := .follow
  chase := true
  held := none
  mark := none
  lastCue := none
  taken := 0
  duplicates := 0
  missed := 0
  bad := 0
  undelivered := 0
  writing := none
  holding := none
  map := []
  setLevel := 20
  mute := false
  output := 20
  present := present
  leaderMade := leaderMade

/-- R193, with the lines as they stand. -/
def Remote.reset (fwd rev dark : Bool) : Remote where
  irEnable := true
  wiredEnable := true
  channel := 0
  digits := []
  entryTimer := none
  ir := none
  irRelease := none
  fwd := none
  rev := none
  darkHeld := false
  fwdActive := fwd
  revActive := rev
  darkActive := dark

/-- R194. -/
def Link.reset : Link where
  station := 0
  group8 := false
  group9 := false
  group10 := false
  group11 := false
  assembly := none
  overrun := false
  readSelect := .status
  cursor := { table := .frame, index := 1, field := 0, step := false }
  cursorResult := none
  requestResult := none
  outstanding := 0
  formatErrors := 0
  readHold := none
  ack := none
  reply := []

/-- The part right after a power-on reset with no tray, no tape, every sensor open, the key off and every line
inactive (log 11). -/
def State.reset : State where
  port := Port.reset
  arb := Arbiter.reset false
  blk :=
    { deckA := Deck.reset, deckB := Deck.reset, lampA := Lamp.reset, lampB := Lamp.reset, lcu := Lcu.reset,
      pres := Pres.reset, tape := Tape.reset false false, remote := Remote.reset false false false,
      link := Link.reset }
  pending := []

end Sys2Proof.Machine
end

