-- ==== Sys2Proof/Machine/Ops.lean ====
section
/-! DEFINITION. The named operations the blocks share: the working copy one step runs on, what it sends out, and the
accessors of the two decks and the two lamps. -/

namespace Sys2Proof.Machine

/-- Event codes in the order of section 10.9. -/
inductive EventCode where
  | deckFault | slotBad | censusDone | censusMismatch | frameDark | holdEconomy | loopOff | lampSwap | lampDead
  | zoneChange | fanFault | cooldownDone | cueGap | cueBad | cueOverflow | chase | mark | mapFull | cueCut
  | unrecorded | tapeEnd | transportFault | linkOverrun | linkRefused | remoteRefused
  deriving DecidableEq, Repr

/-- What a block hands to the command port: an event (R212) or the answer to a taken command (R211). -/
inductive Emit where
  | event (code : EventCode) (fields : List Byte)
  | answer (ticket : Ticket) (status : Status) (fields : List Byte)
  deriving DecidableEq, Repr

/-- What the tape unit hands to the arbiter: a flush of the CUE queue (R174), or a request (R154, R160). -/
inductive Post where
  | flush
  | request (kind : Kind) (arg : Option Nat)
  deriving DecidableEq, Repr

/-- Outcomes of a CHANGE (R37); TRAY is a fault whose deck is ABSENT. -/
inductive ChangeOutcome where
  | clean | soft | firm | failed | emptySlot | badSlot | stopped | fault | unavailable
  deriving DecidableEq, Repr

/-- Lamp reports (R111); `out` is a lamp that became OFF, which a held crossing waits for (R122). -/
inductive LampReport where
  | lit | left | dead | out
  deriving DecidableEq, Repr

/-- Reports between blocks; they are delivered before the step that raised them ends. -/
inductive Msg where
  /-- LCU to deck: the claimed lamp's output stands at 0 (R32, R121) -/
  | dark (d : DeckId)
  /-- deck to presentation: a CHANGE report (R37), perhaps superseded (R63) -/
  | changeEnded (d : DeckId) (target : Nat) (outcome : ChangeOutcome) (superseded : Bool)
  /-- deck to presentation: a ladder report (R56) -/
  | ladder (d : DeckId) (target stage : Nat)
  /-- deck to presentation: the normal DROP of a CHANGE begins (R96) -/
  | dropBegan (d : DeckId)
  /-- deck to presentation: the deck is ABSENT (R45) -/
  | absent (d : DeckId)
  /-- deck to presentation: a FAULT outside a CHANGE (R94) -/
  | faulted (d : DeckId)
  /-- deck to presentation: a census completed (R41) -/
  | censusDone (d : DeckId)
  /-- deck to presentation: a tray was inserted (R72, R73) -/
  | inserted (d : DeckId)
  /-- LCU to presentation: a lamp report (R111) -/
  | lamp (d : DeckId) (report : LampReport)
  /-- LCU to presentation: a ramp completed, with the output it stood at (R120) -/
  | ramp (d : DeckId) (output : Nat)
  /-- LCU to presentation: the zone entered CRITICAL, or left it (R124) -/
  | critical (entered : Bool)
  /-- LCU to presentation and tape unit: entry to COOLDOWN (R130) -/
  | cooldown
  deriving DecidableEq, Repr

/-- The copy of the blocks that a step works on, with what it sends out: to the command port, between the blocks,
and to the arbiter, each oldest first. -/
structure Work where
  st : Blocks
  out : List Emit
  msgs : List Msg
  posts : List Post
  deriving DecidableEq, Repr

/-- A step begins with nothing sent. -/
def Work.start (b : Blocks) : Work := { st := b, out := [], msgs := [], posts := [] }

/-! ## The two decks and the two lamps -/

def Blocks.deck (b : Blocks) : DeckId → Deck
  | .a => b.deckA
  | .b => b.deckB

def Blocks.setDeck (b : Blocks) (d : DeckId) (x : Deck) : Blocks :=
  match d with
  | .a => { b with deckA := x }
  | .b => { b with deckB := x }

def Blocks.lamp (b : Blocks) : DeckId → Lamp
  | .a => b.lampA
  | .b => b.lampB

def Blocks.setLamp (b : Blocks) (d : DeckId) (x : Lamp) : Blocks :=
  match d with
  | .a => { b with lampA := x }
  | .b => { b with lampB := x }

def Work.deck (w : Work) (d : DeckId) : Deck := w.st.deck d

def Work.lamp (w : Work) (d : DeckId) : Lamp := w.st.lamp d

def Work.setDeck (w : Work) (d : DeckId) (x : Deck) : Work := { w with st := w.st.setDeck d x }

def Work.setLamp (w : Work) (d : DeckId) (x : Lamp) : Work := { w with st := w.st.setLamp d x }

def Work.modDeck (w : Work) (d : DeckId) (f : Deck → Deck) : Work := w.setDeck d (f (w.deck d))

def Work.modLamp (w : Work) (d : DeckId) (f : Lamp → Lamp) : Work := w.setLamp d (f (w.lamp d))

/-- Both lamps at once. -/
def Work.modLamps (w : Work) (f : Lamp → Lamp) : Work := (w.modLamp .a f).modLamp .b f

def Work.modLcu (w : Work) (f : Lcu → Lcu) : Work := { w with st := { w.st with lcu := f w.st.lcu } }

def Work.modPres (w : Work) (f : Pres → Pres) : Work := { w with st := { w.st with pres := f w.st.pres } }

def Work.modTape (w : Work) (f : Tape → Tape) : Work := { w with st := { w.st with tape := f w.st.tape } }

def Work.modRemote (w : Work) (f : Remote → Remote) : Work :=
  { w with st := { w.st with remote := f w.st.remote } }

def Work.modLink (w : Work) (f : Link → Link) : Work := { w with st := { w.st with link := f w.st.link } }

/-! ## What a step sends out -/

/-- Hand an event to the command port. -/
def Work.event (w : Work) (code : EventCode) (fields : List Byte) : Work :=
  { w with out := w.out ++ [.event code fields] }

/-- Hand the answer of a taken command to the command port. -/
def Work.answer (w : Work) (t : Ticket) (status : Status) (fields : List Byte) : Work :=
  { w with out := w.out ++ [.answer t status fields] }

/-- Answer a command that may be absent, with no result fields. -/
def Work.answerOpt (w : Work) (t : Option Ticket) (status : Status) : Work :=
  match t with
  | some t => w.answer t status []
  | none => w

/-- Answer several commands alike, with no result fields. -/
def Work.answerAll (w : Work) (ts : List Ticket) (status : Status) : Work :=
  { w with out := w.out ++ ts.map fun t => .answer t status [] }

/-- Send a report to another block. -/
def Work.send (w : Work) (m : Msg) : Work := { w with msgs := w.msgs ++ [m] }

/-- Hand a request, or a flush, to the arbiter. -/
def Work.post (w : Work) (p : Post) : Work := { w with posts := w.posts ++ [p] }

/-- A count that stays at 255 once there. -/
def sat255 (n : Nat) : Nat := if n < 255 then n + 1 else 255

end Sys2Proof.Machine
end

