-- ==== Sys2Proof/Machine/Operands.lean ====
section
/-! DEFINITION. The operand forms of the host commands and link requests: which value an argument byte names
(11_formats.md, R220), `none` when it is above its list. -/

namespace Sys2Proof.Machine

def deckOf (b : Byte) : Option DeckId :=
  match b.toNat with
  | 0 => some .a
  | 1 => some .b
  | _ => none

/-- On and off. -/
def onOff (b : Byte) : Option Bool :=
  match b.toNat with
  | 0 => some false
  | 1 => some true
  | _ => none

def modeOf (b : Byte) : Option Mode :=
  match b.toNat with
  | 0 => some .setup
  | 1 => some .manual
  | 2 => some .show
  | 3 => some .program
  | _ => none

def pairingOf (b : Byte) : Option Pairing :=
  match b.toNat with
  | 0 => some .single
  | 1 => some .alternate
  | 2 => some .mirror
  | _ => none

def sourceOf (b : Byte) : Option Source :=
  match b.toNat with
  | 0 => some .cport
  | 1 => some .link
  | 2 => some .remote
  | 3 => some .cue
  | _ => none

/-- A phase of SET_PHASES (11.2): a source, or EMPTY. -/
def phaseOf (b : Byte) : Option (Option Source) :=
  match b.toNat with
  | 0 => some (some .cport)
  | 1 => some (some .link)
  | 2 => some (some .remote)
  | 3 => some (some .cue)
  | 4 => some none
  | _ => none

def cuePolicyOf (b : Byte) : Option CuePolicy :=
  match b.toNat with
  | 0 => some .follow
  | 1 => some .stop
  | _ => none

/-- The kind of a cue word (R149). -/
def cueKindOf (n : Nat) : Option CueKind :=
  match n with
  | 1 => some .advance
  | 2 => some .reverse
  | 3 => some .goto
  | 4 => some .cut
  | 5 => some .dissolve
  | 6 => some .level
  | 7 => some .hold
  | 8 => some .mute
  | 9 => some .unmute
  | 10 => some .mark
  | 11 => some .fin
  | _ => none

/-- The argument of DARK: off, on or toggle (R103). -/
def darkArgOk (b : Byte) : Bool := b.toNat ≤ 2

/-- A frame's dissolve class: 0..7, or DEFAULT coded 8 (R6). -/
def classOf (n : Nat) : Option FrameClass :=
  if n ≤ 7 then some (.num n) else if n = 8 then some .default else none

/-- Write one field of a frame record, the field given by its place in DECK, SLOT, CLASS, LEVEL, HOLD, SKIP,
TAPE_HOLD, if the value lies in the field's range (R6, R21, R205). -/
def Frame.write (f : Frame) (field value : Nat) : Option Frame :=
  match field with
  | 0 => match value with
    | 0 => some { f with deck := .a }
    | 1 => some { f with deck := .b }
    | _ => none
  | 1 => if 1 ≤ value ∧ value ≤ 99 then some { f with slot := value } else none
  | 2 => (classOf value).map fun c => { f with cls := c }
  | 3 => if 10 ≤ value ∧ value ≤ 100 then some { f with level := value } else none
  | 4 => if value ≤ 255 then some { f with hold := value } else none
  | 5 => if value ≤ 1 then some { f with skip := value == 1 } else none
  | 6 => if value ≤ 1 then some { f with tapeHold := value == 1 } else none
  | _ => none

/-- The blank record (R6). -/
def blankFrame : Frame where
  deck := .a
  slot := 1
  cls := .default
  level := 100
  hold := 0
  skip := false
  tapeHold := false

end Sys2Proof.Machine
end

