-- ==== Sys2Proof/Machine/Formats.lean ====
section
/-! DEFINITION. How values are coded in responses and events (11_formats.md, log 6): an enumerated value by its place
in the first list that gives it, on, set and yes as 1, an absent one-byte value as FFh. -/

namespace Sys2Proof.Machine

/-- One byte of a plain binary value. -/
def byte (n : Nat) : Byte := BitVec.ofNat 8 n

/-- Two bytes, the most significant first. -/
def word (n : Nat) : List Byte := [byte (n / 256), byte n]

/-- On, set and yes are 1. -/
def Bool.code (b : Bool) : Byte := if b then 1 else 0

/-- A one-byte field below 255 that may be absent. -/
def optByte : Option Nat → Byte
  | some n => byte n
  | none => 255

/-- A two-byte field below 65535 that may be absent. -/
def optWord : Option Nat → List Byte
  | some n => word n
  | none => [255, 255]

/-- A one-byte field that reaches 255 and may be absent: a presence byte first. -/
def presentByte : Option Nat → List Byte
  | some n => [1, byte n]
  | none => [0, 0]

/-- A two-byte field that reaches 65535 and may be absent: a presence byte first. -/
def presentWord : Option Nat → List Byte
  | some n => 1 :: word n
  | none => [0, 0, 0]

def DeckId.code : DeckId → Byte
  | .a => 0
  | .b => 1

/-- The on-screen deck: A, B, NONE (R9). -/
def optDeckCode : Option DeckId → Byte
  | some d => DeckId.code d
  | none => 2

def Presence.code : Presence → Byte
  | .unknown => 0
  | .present => 1
  | .empty => 2

/-- GOOD, SUSPECT, BAD by the fault count (R2). -/
def conditionCode (faults : Nat) : Byte := if faults = 0 then 0 else if faults ≤ 3 then 1 else 2

def Service.code : Service → Byte
  | .normal => 0
  | .twin => 1
  | .darkEmpty => 2
  | .darkBad => 3
  | .darkNodeck => 4
  | .darkNolamp => 5

def PresState.code : PresState → Byte
  | .empty => 0
  | .showing => 1
  | .pending => 2
  | .crossing => 3
  | .changing => 4
  | .frozen => 5

def Mode.code : Mode → Byte
  | .setup => 0
  | .manual => 1
  | .show => 2
  | .program => 3

def Pairing.code : Pairing → Byte
  | .single => 0
  | .alternate => 1
  | .mirror => 2

def Source.code : Source → Byte
  | .cport => 0
  | .link => 1
  | .remote => 2
  | .cue => 3

/-- A phase: the source, or EMPTY coded 4 (11.2). -/
def phaseCode : Option Source → Byte
  | some s => Source.code s
  | none => 4

def Kind.code : Kind → Byte
  | .advance => 0
  | .reverse => 1
  | .goto => 2
  | .dark => 3
  | .chase => 4
  | .cut => 5
  | .dissolve => 6
  | .level => 7

def Status.code : Status → Byte
  | .ok => 0
  | .aborted => 1
  | .atStart => 2
  | .noAuthority => 3
  | .wrongMode => 4
  | .wrongState => 5
  | .wrongPowerState => 6
  | .locked => 7
  | .rangeLocked => 8
  | .inUse => 9
  | .badArgument => 10
  | .deckUnavailable => 11
  | .jamPresent => 12
  | .thermal => 13
  | .notFound => 14
  | .fault => 15

def EventCode.code : EventCode → Byte
  | .deckFault => 1
  | .slotBad => 2
  | .censusDone => 3
  | .censusMismatch => 4
  | .frameDark => 5
  | .holdEconomy => 6
  | .loopOff => 7
  | .lampSwap => 8
  | .lampDead => 9
  | .zoneChange => 10
  | .fanFault => 11
  | .cooldownDone => 12
  | .cueGap => 13
  | .cueBad => 14
  | .cueOverflow => 15
  | .chase => 16
  | .mark => 17
  | .mapFull => 18
  | .cueCut => 19
  | .unrecorded => 20
  | .tapeEnd => 21
  | .transportFault => 22
  | .linkOverrun => 23
  | .linkRefused => 24
  | .remoteRefused => 25

def DeckState.code : DeckState → Byte
  | .absent => 0
  | .unhomed _ => 1
  | .idle _ => 2
  | .busy _ => 3
  | .fault _ => 4

def FaultKind.code : FaultKind → Byte
  | .jam => 0
  | .drive => 1
  | .index => 2

/-- The fault kind TRAY, which no state holds (R27, R45). -/
def trayFaultCode : Byte := 3

def OpKind.code : OpKind → Byte
  | .change => 0
  | .home => 1
  | .census => 2
  | .release => 3

def Phase.code : Phase → Byte
  | .lift => 0
  | .rotate => 1
  | .drop => 2
  | .settle => 3
  | .seekIndex => 4
  | .scan => 5
  | .unlatched => 6

/-- The requester and the tag of HOST (R28). -/
def Requester.code : Requester → List Byte
  | .presentation => [0, 0, 0]
  | .host t => [1, 1, t.tag]
  | .internal => [2, 0, 0]

def LampState.code : LampState → Byte
  | .off => 0
  | .inhibit => 1
  | .striking .. => 2
  | .lit => 3
  | .swapping .. => 4
  | .dead => 5

def Filament.code : Filament → Byte
  | .primary => 0
  | .spare => 1

def Health.code : Health → Byte
  | .good => 0
  | .failed => 1

def Zone.code : Zone → Byte
  | .normal => 0
  | .warm => 1
  | .hot => 2
  | .critical => 3

def Fan.code : Fan → Byte
  | .off => 0
  | .low => 1
  | .medium => 2
  | .high => 3
  | .full => 4

def Power.code : Power → Byte
  | .active => 0
  | .cooldown => 1
  | .standby => 2

def Transport.code : Transport → Byte
  | .noTape => 0
  | .stopped => 1
  | .playing => 2
  | .recording => 3
  | .paused _ => 4
  | .windingFwd => 5
  | .windingRev => 6

/-- The resume target, present in PAUSED only (R139). -/
def resumeCode : Transport → Byte
  | .paused .playing => 0
  | .paused .recording => 1
  | _ => 255

def Leader.code : Leader → Byte
  | .none => 0
  | .head => 1
  | .tail => 2

/-- The cue kinds carry the codes of R149. -/
def CueKind.num : CueKind → Nat
  | .advance => 1
  | .reverse => 2
  | .goto => 3
  | .cut => 4
  | .dissolve => 5
  | .level => 6
  | .hold => 7
  | .mute => 8
  | .unmute => 9
  | .mark => 10
  | .fin => 11

def CueKind.code (k : CueKind) : Byte := byte k.num

/-- A sequence, or ANY coded 16, its place after 0..15 in R139's list (log 6). -/
def expectedCode : Option Nat → Byte
  | some e => byte e
  | none => 16

def CuePolicy.code : CuePolicy → Byte
  | .follow => 0
  | .stop => 1

def FrameClass.code : FrameClass → Byte
  | .num n => byte n
  | .default => 8

/-- The hold timer: running, expired, absent (R9). -/
def HoldTimer.code : HoldTimer → Byte
  | .running _ => 0
  | .expired => 1
  | .absent => 255

def PreloadState.code : PreloadState → Byte
  | .inFlight => 0
  | .ready => 1
  | .failed => 2

/-- EMPTY, BAD, NODECK, NOLAMP, or absent for a deck that is not excluded (R81). -/
def optReasonCode : Option Reason → Byte
  | some .empty => 0
  | some .bad => 1
  | some .nodeck => 2
  | some .nolamp => 3
  | none => 255

/-- The keys in the order of R189, the digits in their place. -/
def Key.code : Key → Byte
  | .advance => 0
  | .reverse => 1
  | .dark => 2
  | .pause => 3
  | .digit n => byte (4 + n.val)
  | .go => 14
  | .clear => 15
  | .other => 16

def CursorTable.num : CursorTable → Nat
  | .frame => 0
  | .slotA => 1
  | .slotB => 2
  | .position => 3

/-- A slot record in a response (R4, R70). -/
def SlotRecord.bytes (r : SlotRecord) : List Byte :=
  [Presence.code r.presence, byte r.faults, conditionCode r.faults] ++ presentByte r.pass

/-- A frame record in a response (R8). -/
def Frame.bytes (f : Frame) : List Byte :=
  [DeckId.code f.deck, byte f.slot, FrameClass.code f.cls, byte f.level, byte f.hold, Bool.code f.skip,
    Bool.code f.tapeHold]

/-- A request entry in ARBITER_STATUS (R186): kind and argument, and for CPORT the tag. -/
def Request.bytes (r : Request) : List Byte :=
  Kind.code r.kind :: presentByte r.arg ++
    match r.source with
    | .cport => [match r.ticket with | some t => t.tag | none => 0]
    | _ => []

/-- An entry of the cue map in a response (R159). -/
def CueEntry.bytes (e : CueEntry) : List Byte :=
  word e.count ++ [byte e.seq, CueKind.code e.kind, byte e.arg, byte e.frameAfter]

end Sys2Proof.Machine
end

