-- ==== Sys2Proof/Machine/Flags.lean ====
section
/-! DEFINITION. Conditions that are computed from the records and stored nowhere: the presentation state, the zone in
force, ready, the encoder hold, held tables, and when a ramp is complete. -/

namespace Sys2Proof.Machine

/-! ## Presentation -/

/-- The presentation state (R77, R10). -/
def Pres.state (p : Pres) : PresState :=
  if p.frozen then .frozen
  else match p.transition with
    | none => if p.current = 0 then .empty else .showing
    | some t => match t.stand with
      | .pending => .pending
      | .crossing _ => .crossing
      | _ => .changing

/-- Ready: EMPTY or SHOWING with no granted request (R77). -/
def Pres.ready (p : Pres) : Bool := !p.frozen && p.transition.isNone && p.granted.isNone

/-- Showing, with a deck on screen. -/
def Pres.showingOn (p : Pres) : Option DeckId :=
  match p.state, p.screen with
  | .showing, some s => some s.deck
  | _, _ => none

/-- A STOP sent to the deck is outstanding (R84). -/
def Pres.stopped (p : Pres) : DeckId → Bool
  | .a => p.stopA
  | .b => p.stopB

def Pres.order (p : Pres) : DeckId → Option Nat
  | .a => p.orderA
  | .b => p.orderB

def Pres.census (p : Pres) : DeckId → Bool
  | .a => p.censusA
  | .b => p.censusB

/-- The reason a deck is excluded for, if it is (R81). -/
def Transition.excluded (t : Transition) : DeckId → Option Reason
  | .a => t.excludedA
  | .b => t.excludedB

/-- A frame is in transition: it is the target of a transition in progress (R15). -/
def Pres.inTransition (p : Pres) (frame : Nat) : Bool :=
  match p.transition with
  | some t => t.target == frame
  | none => false

def Pres.count (p : Pres) : Nat := p.frames.length

/-- The record of frame `n`, counted from 1 (R5). -/
def Pres.frame? (p : Pres) (n : Nat) : Option Frame := if n = 0 then none else p.frames[n - 1]?

/-! ## Cooling -/

/-- CRITICAL while a fan fault stands, else the reading zone (R124). -/
def Lcu.zone (l : Lcu) : Zone := if l.fanFault then .critical else l.readingZone

/-- R118. -/
def Zone.budget : Zone → Nat
  | .normal => 200
  | .warm => 150
  | .hot => 100
  | .critical => 0

/-- What a sensor counts as (R123): a silent one as 95. -/
def Sensor.counts (s : Sensor) : Option Nat := if s.silent then some 95 else s.reading

/-- The greatest of two optional readings. -/
def maxReading : Option Nat → Option Nat → Option Nat
  | some a, some b => some (max a b)
  | some a, none => some a
  | none, b => b

/-- The highest reading (R124). -/
def Lcu.highest (l : Lcu) : Option Nat :=
  maxReading (maxReading l.sensor0.counts l.sensor1.counts) l.sensor2.counts

/-- The value of a line from `start` to `target` with `left` of `total` to go (R117, R119, log 8). -/
def lineValue (start target total left : Nat) : Nat :=
  if total = 0 then target
  else
    let num := start * left + target * (total - left)
    if num % total = 0 then num / total
    else if Config.lineRoundsUp num total then num / total + 1 else num / total

/-- R118. -/
def Lamp.demand (l : Lamp) : Nat :=
  match l.ramp with
  | some r => lineValue r.start r.target r.total r.left
  | none => l.commanded

def Lamp.isLit (l : Lamp) : Bool :=
  match l.state with
  | .lit => true
  | _ => false

def Lamp.isDead (l : Lamp) : Bool :=
  match l.state with
  | .dead => true
  | _ => false

/-- The lamp may serve a frame: it is not DEAD, and if LAMP_REPLACED took it out of DEAD it has been lit since (R116,
R136). -/
def Lamp.servable (l : Lamp) : Bool := !l.isDead && !l.unlit

/-- STRIKING or LIT (R111). -/
def Lamp.burning (l : Lamp) : Bool :=
  match l.state with
  | .lit | .striking .. => true
  | _ => false

/-- INHIBIT, STRIKING or SWAPPING: a lamp on its way to being lit (R120, R122). -/
def Lamp.onItsWay (l : Lamp) : Bool :=
  match l.state with
  | .inhibit | .striking .. | .swapping .. => true
  | _ => false

/-- A ramp is complete (R120). -/
def Lamp.rampDone (l : Lamp) : Bool :=
  match l.ramp with
  | none => false
  | some r => match l.state with
    | .off | .dead => true
    | .lit => l.output == r.target || (r.left == 0 && l.output == l.granted)
    | _ => l.output == r.target

/-! ## Arbiter and tape -/

/-- The tables are held (R181). -/
def Arbiter.held (a : Arbiter) : Bool := a.key && a.lockHold

/-- The protected set of a range lock (R180). -/
def RangeLock.protects (l : RangeLock) (frame : Nat) : Bool :=
  if l.lo = 0 then false
  else
    let inside := decide (l.lo ≤ frame ∧ frame ≤ l.hi)
    if l.invert then decide (1 ≤ frame ∧ frame ≤ 200) && !inside else inside

/-- Some frame of first..first+n−1 is protected. -/
def RangeLock.protectsAny (l : RangeLock) (first n : Nat) : Bool :=
  (List.range n).any fun k => l.protects (first + k)

def Tape.isRecording (t : Tape) : Bool :=
  match t.transport with
  | .recording => true
  | _ => false

def Tape.isPlaying (t : Tape) : Bool :=
  match t.transport with
  | .playing => true
  | _ => false

/-- PLAYING, RECORDING, WINDING_FWD and WINDING_REV (R139). -/
def Tape.inMotion (t : Tape) : Bool :=
  match t.transport with
  | .playing | .recording | .windingFwd | .windingRev => true
  | _ => false

def Tape.winding (t : Tape) : Bool :=
  match t.transport with
  | .windingFwd | .windingRev => true
  | _ => false

/-- The target of the sound output (R166). -/
def Tape.target (t : Tape) : Nat := if t.mute || t.winding || t.runOut.isSome then 0 else t.setLevel

/-- R176. -/
def Blocks.encoderHold (b : Blocks) : Bool :=
  b.pres.mode == .program && b.tape.isRecording && b.tape.holding.isSome

/-! ## Decks -/

/-- The tray size T, or none without a tray (R1). -/
def Deck.size (x : Deck) : Option Nat := x.map.map fun m => m.size

/-- The slot record at a position of the tray. -/
def Deck.slot? (x : Deck) (s : Nat) : Option SlotRecord :=
  match x.map with
  | some m => if s < m.size then m.slots[s]? else none
  | none => none

/-- The slot may be dropped: PRESENT with a fault count below 4 (R35). -/
def Deck.mayDrop (x : Deck) (s : Nat) : Bool :=
  match x.slot? s with
  | some r => r.presence == .present && decide (r.faults < 4)
  | none => false

/-- BUSY in a CHANGE, an automatic HOME that suspends one included, and not ended by a part reset. -/
def Deck.changing (x : Deck) : Bool :=
  match x.state with
  | .busy op => !op.resetting &&
      (match op.suspended with
       | some s => s.kind == .change
       | none => op.kind == .change)
  | _ => false

/-- The ladder stage of a running or suspended CHANGE and its target (R71). -/
def Deck.ladder (x : Deck) : Option (Nat × Nat) :=
  match x.state with
  | .busy op =>
    match op.suspended with
    | some s => if s.kind == .change then some (s.target, s.stage) else none
    | none => if op.kind == .change then some (op.target, op.stage) else none
  | _ => none

/-- The gate is LOADED at the slot (R27). -/
def Deck.loadedAt (x : Deck) (s : Nat) : Bool :=
  match x.state with
  | .idle (.loaded k) => k == s
  | _ => false

end Sys2Proof.Machine
end

