-- ==== Sys2Proof/Machine/Lcu.lean ====
section
/-! DEFINITION. The lamp and cooling unit (05_lamps_levels_and_cooling.md): grants, ramps, strikes, swaps, zones, the
fan, the power states, its commands and its events. -/

namespace Sys2Proof.Machine

/-! ## Grants (R118, R121) -/

/-- The grant of a lamp that may take at most `room` of the budget. -/
def Lamp.grant (l : Lamp) (room : Nat) : Nat :=
  match l.state with
  | .lit =>
    if l.claim then
      match l.fade with
      | some f => min (min l.demand room) (lineValue f.start 0 Config.darkFadeMs f.left)
      | none => 0
    else min l.demand room
  | _ => 0

/-- Both grants, the priority lamp's first (R118). -/
def Work.grants (w : Work) : Nat × Nat :=
  let p := w.st.lcu.priority
  let first := (w.lamp p).grant w.st.lcu.zone.budget
  (first, (w.lamp p.other).grant (w.st.lcu.zone.budget - first))

/-- A dark fade whose output has reached 0 ends and is reported (R121). -/
def Work.endFade (w : Work) (d : DeckId) : Work :=
  if (w.lamp d).fade.isSome && (w.lamp d).output == 0 then
    (w.modLamp d fun l => { l with fade := none }).send (.dark d)
  else w

/-- Write a grant; the output falls to it (R118). -/
def Work.setGrant (w : Work) (d : DeckId) (g : Nat) : Work :=
  (w.modLamp d fun l => { l with granted := g, output := min l.output g }).endFade d

/-- Recompute the grants of both lamps (R118). -/
def Work.regrant (w : Work) : Work :=
  let g := w.grants
  let p := w.st.lcu.priority
  (w.setGrant p g.1).setGrant p.other g.2

/-! ## The fan (R125, R126) -/

def isHot : Option Nat → Bool
  | some v => decide (50 ≤ v)
  | none => false

/-- The first row of R125's table that holds. -/
def Blocks.fanSpeed (b : Blocks) : Fan :=
  let l := b.lcu
  if l.fanFault || l.zone == .hot || l.zone == .critical || l.power == .cooldown || l.startupHold then .full
  else if l.zone == .warm then .high
  else if b.lampA.output + b.lampB.output > 100 then .medium
  else if b.lampA.burning || b.lampB.burning || isHot l.highest then .low
  else .off

/-- Set the fan's speed; a fan that starts is watched for its tach from then on (R126). -/
def Work.setFan (w : Work) : Work :=
  let f := w.st.fanSpeed
  w.modLcu fun l =>
    match f with
    | .off => { l with fan := .off, fanWatch := none, tachSeen := false }
    | _ => { l with fan := f, fanWatch := if l.fan = .off then some Config.fanTachWatchMs else l.fanWatch }

/-- What follows a change of a lamp's state: the grants and the fan. -/
def Work.lampChanged (w : Work) : Work := w.regrant.setFan

/-! ## Ramps (R117, R119, R120) -/

/-- A ramp that is complete becomes absent and is reported with the output it stood at (R120). -/
def Work.completeRamp (w : Work) (d : DeckId) : Work :=
  if (w.lamp d).rampDone then
    let w := (w.modLamp d fun l => { l with ramp := none }).regrant
    w.send (.ramp d (w.lamp d).output)
  else w

/-- A ramp request (R117); one of 0 s lets the output take its grant at once (R119), and a ramp that is complete at its
request is reported there (R120). -/
def Work.requestRamp (w : Work) (d : DeckId) (target ms : Nat) : Work :=
  let w := (w.modLamp d fun l =>
    { l with commanded := target, ramp := some { start := l.output, target := target, total := ms, left := ms } }).regrant
  (if ms = 0 then w.modLamp d fun l => { l with output := l.granted } else w).completeRamp d

/-- The presentation controller names the priority deck (R117). -/
def Work.setPriority (w : Work) (d : DeckId) : Work := (w.modLcu fun l => { l with priority := d }).regrant

/-- One 20 ms step of a lamp's ramp while it is LIT, and of its dark fade (R119, R121). A time that is no whole number
of steps (250 ms, half of class 1) ends within its last step, the 13th here (log 64). -/
def Lamp.stepLines (l : Lamp) : Lamp :=
  { l with
    ramp := if l.isLit then l.ramp.map fun r => { r with left := r.left - Config.rampStepMs } else l.ramp
    fade := l.fade.map fun f => { f with left := f.left - Config.rampStepMs } }

/-- The output at a ramp step: it falls to the grant, or rises by at most the larger of 2 and `rise` (R119). -/
def Lamp.stepOutput (l : Lamp) (g rise : Nat) : Lamp :=
  { l with granted := g, output := min g (l.output + max 2 rise) }

/-- RAMP_STEP (R119). -/
def Work.rampStep (w : Work) : Work :=
  let w1 := w.modLamps Lamp.stepLines
  let rise (d : DeckId) : Nat := (w1.lamp d).demand - (w.lamp d).demand
  let g := w1.grants
  let p := w.st.lcu.priority
  let w2 := (w1.modLamp p fun l => l.stepOutput g.1 (rise p)).modLamp p.other fun l => l.stepOutput g.2 (rise p.other)
  ((w2.endFade .a).endFade .b).setFan

/-- RAMP_COMPLETION (R120): a ramp that completes elsewhere than at its request or at the end of its lamp (log 2). -/
def Work.rampCompletion (w : Work) (d : DeckId) : Work := w.completeRamp d

/-! ## Dark claims (R121) -/

def Work.placeClaim (w : Work) (d : DeckId) : Work :=
  if (w.lamp d).output = 0 then ((w.modLamp d fun l => { l with claim := true }).regrant).send (.dark d)
  else (w.modLamp d fun l =>
    { l with claim := true, fade := some { start := l.output, left := Config.darkFadeMs } }).regrant

def Work.releaseClaim (w : Work) (d : DeckId) : Work :=
  if (w.lamp d).claim then (w.modLamp d fun l => { l with claim := false, fade := none }).regrant else w

/-- DARK_FADE_END (R121): the fade has run its 100 ms. -/
def Work.darkFadeEnd (w : Work) (d : DeckId) : Work :=
  (w.modLamp d fun l => { l with fade := l.fade.map fun f => { f with left := 0 } }).regrant

/-! ## Lamp state changes (R110 to R116) -/

def Filament.other : Filament → Filament
  | .primary => .spare
  | .spare => .primary

def Lamp.health (l : Lamp) : Filament → Health
  | .primary => l.primary
  | .spare => l.spare

def Lamp.markFailed (l : Lamp) : Lamp :=
  match l.active with
  | .primary => { l with primary := .failed }
  | .spare => { l with spare := .failed }

/-- The lamp becomes OFF. `extinguish` starts the restrike inhibit and the time since the last extinguish (R110);
commands waiting for the lamp to be lit get `onStatus`, those waiting for it to be out get OK (R134, R135). A ramp
completes at once, after the lamp's own reports (R120, log 68). -/
def Work.lampOut (w : Work) (d : DeckId) (extinguish relight : Bool) (onStatus : Status) : Work :=
  let l := w.lamp d
  let w := w.modLamp d fun l =>
    { l with
      state := .off, granted := 0, output := 0, relightOwed := relight, onWaiting := [], offWaiting := []
      inhibit := if extinguish then some Config.restrikeInhibitMs else l.inhibit }
  let w := if extinguish then w.modLcu fun c => { c with sinceExtinguish := 0 } else w
  let w := ((w.answerAll l.onWaiting onStatus).answerAll l.offWaiting .ok).lampChanged.endFade d
  let w := if l.isLit then w.send (.lamp d .left) else w
  (w.send (.lamp d .out)).completeRamp d

/-- The lamp becomes DEAD (R116); a ramp completes at once, after the report DEAD (log 68). LAMP_DEAD joins before the
answers of the commands that wait (log 81), the LAMP_ON commands' before the LAMP_OFF commands' (log 80). -/
def Work.lampDead (w : Work) (d : DeckId) : Work :=
  let l := w.lamp d
  let w := w.modLamp d fun l =>
    { l with state := .dead, granted := 0, output := 0, relightOwed := false, onWaiting := [], offWaiting := [] }
  let w := w.event .lampDead [DeckId.code d, Health.code l.primary, Health.code l.spare]
  ((((w.answerAll l.onWaiting .fault).answerAll l.offWaiting .fault).lampChanged.endFade d).send
    (.lamp d .dead)).completeRamp d

/-- The lamp enters SWAPPING (R115). Its ramp to a level above 0 waits there, that of the outgoing lamp of a held crossing
included (log 75). -/
def Work.startSwap (w : Work) (d : DeckId) : Work :=
  let l := w.lamp d
  let w := w.modLamp d fun l =>
    { l with state := .swapping .strike Config.changerWatchMs, granted := 0, output := 0 }
  let w := (w.event .lampSwap [DeckId.code d, Filament.code l.active.other]).lampChanged.endFade d
  if l.isLit then w.send (.lamp d .left) else w

/-- The active filament is marked FAILED; the lamp swaps, or becomes DEAD (R114, R116). -/
def Work.failFilament (w : Work) (d : DeckId) : Work :=
  let w := w.modLamp d Lamp.markFailed
  let l := w.lamp d
  match l.health l.active.other with
  | .good => w.startSwap d
  | .failed => w.lampDead d

/-- A first attempt of a strike (R114). -/
def Work.startAttempts (w : Work) (d : DeckId) : Work :=
  (w.modLamp d fun l => { l with state := .striking .softStart Config.softStartMs false, attempts := 0 }).lampChanged

/-- A strike begins, or waits in INHIBIT (R113). -/
def Work.startStrike (w : Work) (d : DeckId) : Work :=
  if (w.lamp d).inhibit.isSome then (w.modLamp d fun l => { l with state := .inhibit }).lampChanged
  else w.startAttempts d

/-- The lamp becomes LIT at output 0; a ramp it holds starts its line again from there (R114, R119), and a replaced lamp
has now been lit (R136). With no time left the line stands at the target, and the output climbs by 2 a step (log 87). -/
def Work.lampLit (w : Work) (d : DeckId) : Work :=
  let l := w.lamp d
  let w := w.modLamp d fun l =>
    { l with
      state := .lit, output := 0, attempts := 0, onWaiting := [], unlit := false
      ramp := l.ramp.map fun r => { r with start := 0, total := r.left } }
  ((w.answerAll l.onWaiting .ok).lampChanged).send (.lamp d .lit)

/-- SOFT_START_END (R114). -/
def Work.softStartEnd (w : Work) (d : DeckId) : Work :=
  match (w.lamp d).state with
  | .striking .softStart _ offAfter =>
    w.modLamp d fun l => { l with state := .striking .verify Config.verifyMs offAfter }
  | _ => w

/-- FILAMENT_CURRENT_SEEN (R114). A LAMP_ON that has joined an attempt bound to end OFF is answered ABORTED (log 63). -/
def Work.currentSeen (w : Work) (d : DeckId) : Work :=
  match (w.lamp d).state with
  | .striking .gap _ _ => w
  | .striking _ _ offAfter => if offAfter then w.lampOut d true false .aborted else w.lampLit d
  | _ => w

/-- STRIKE_VERIFY_EXPIRY (R114): 600 ms have passed without current. A LAMP_ON that has joined an attempt bound to end
OFF is answered ABORTED (log 63). -/
def Work.verifyExpiry (w : Work) (d : DeckId) : Work :=
  match (w.lamp d).state with
  | .striking .verify _ offAfter =>
    if offAfter then w.lampOut d false false .aborted
    else if (w.lamp d).attempts < 2 then
      (w.modLamp d fun l =>
        { l with state := .striking .gap Config.retryGapMs false, attempts := l.attempts + 1 }).lampChanged
    else w.failFilament d
  | _ => w

/-- RETRY_GAP_END (R114). -/
def Work.retryGapEnd (w : Work) (d : DeckId) : Work :=
  match (w.lamp d).state with
  | .striking .gap _ _ =>
    (w.modLamp d fun l => { l with state := .striking .softStart Config.softStartMs false }).lampChanged
  | _ => w

/-- RESTRIKE_INHIBIT_EXPIRY (R113). -/
def Work.inhibitExpiry (w : Work) (d : DeckId) : Work :=
  if (w.lamp d).inhibit.isSome then
    let w := w.modLamp d fun l => { l with inhibit := none }
    match (w.lamp d).state with
    | .inhibit => w.startAttempts d
    | _ => w
  else w

/-- BURNOUT (R116). A ramp that had already reached its target has completed (R120). -/
def Work.burnout (w : Work) (d : DeckId) : Work :=
  if (w.lamp d).isLit then (w.completeRamp d).failFilament d else w

/-- CHANGER_CONFIRM (R115, R127, log 24). A LAMP_ON that has joined a swap bound to end OFF is answered ABORTED
(log 63), and THERMAL when the swap owes a relight, the zone having left CRITICAL since or not. -/
def Work.changerConfirm (w : Work) (d : DeckId) : Work :=
  match (w.lamp d).state with
  | .swapping after _ =>
    let w := w.modLamp d fun l => { l with active := l.active.other }
    match after with
    | .strike => w.startAttempts d
    | .off => w.lampOut d false false .aborted
    | .relight => w.lampOut d false true .thermal
  | _ => w

/-- CHANGER_CONFIRM_TIMEOUT (R115). -/
def Work.changerTimeout (w : Work) (d : DeckId) : Work :=
  match (w.lamp d).state with
  | .swapping .. => w.lampDead d
  | _ => w

/-! ## Zones (R123, R124, R127, R128) -/

/-- The highest zone whose entry threshold the reading meets (R124). -/
def zoneEntered (v : Nat) : Zone :=
  if v ≥ 95 then .critical else if v ≥ 85 then .hot else if v ≥ 70 then .warm else .normal

def Zone.rank : Zone → Nat
  | .normal => 0
  | .warm => 1
  | .hot => 2
  | .critical => 3

/-- Fall from a zone while the reading is at or below its threshold for leaving downward (R124). -/
def zoneFall (z : Zone) (v : Nat) : Zone :=
  let fromWarm : Zone := if v ≤ 65 then .normal else .warm
  let fromHot : Zone := if v ≤ 80 then fromWarm else .hot
  match z with
  | .normal => .normal
  | .warm => fromWarm
  | .hot => fromHot
  | .critical => if v ≤ 90 then fromHot else .critical

/-- The reading zone after a reading whose highest is `v` (R124). -/
def nextZone (z : Zone) (v : Nat) : Zone :=
  if (zoneEntered v).rank ≥ z.rank then zoneEntered v else zoneFall z v

/-- The zone enters CRITICAL: what becomes of one lamp (R127). -/
def Work.criticalLamp (w : Work) (d : DeckId) : Work :=
  match (w.lamp d).state with
  | .lit | .striking .. => w.lampOut d true true .thermal
  | .inhibit => w.lampOut d false true .thermal
  | .swapping _ left =>
    let waiting := (w.lamp d).onWaiting
    (w.modLamp d fun l => { l with state := .swapping .relight left, onWaiting := [] }).answerAll waiting .thermal
  | _ => w

/-- The zone leaves CRITICAL: a lamp that is owed a relight begins a strike (R128, R113). -/
def Work.relight (w : Work) (d : DeckId) : Work :=
  if (w.lamp d).relightOwed then
    let w := w.modLamp d fun l => { l with relightOwed := false }
    match (w.lamp d).state, w.st.lcu.power with
    | .off, .active => w.startStrike d
    | _, _ => w
  else w

/-- What follows when the zone in force may have changed from `old` (R124); `fan` is the cause FAN. ZONE_CHANGE joins
before the THERMAL answers, lamp A's before lamp B's (log 81). -/
def Work.zoneMoved (w : Work) (old : Zone) (fan : Bool) : Work :=
  let new := w.st.lcu.zone
  if new = old then w.lampChanged
  else
    let w := w.event .zoneChange [Zone.code old, Zone.code new, optByte w.st.lcu.highest, Bool.code fan]
    if new = .critical then (((w.send (.critical true)).criticalLamp .a).criticalLamp .b).lampChanged
    else if old = .critical then (((w.lampChanged.send (.critical false)).relight .a).relight .b).lampChanged
    else w.lampChanged

def Lcu.sensor (l : Lcu) : Fin 3 → Sensor
  | 0 => l.sensor0
  | 1 => l.sensor1
  | 2 => l.sensor2

def Lcu.setSensor (l : Lcu) (i : Fin 3) (s : Sensor) : Lcu :=
  match i with
  | 0 => { l with sensor0 := s }
  | 1 => { l with sensor1 := s }
  | 2 => { l with sensor2 := s }

/-- Re-evaluate the zone (R124). -/
def Work.evaluateZone (w : Work) : Work :=
  match w.st.lcu.highest with
  | none => w.lampChanged
  | some v =>
    let old := w.st.lcu.zone
    (w.modLcu fun l => { l with readingZone := nextZone l.readingZone v }).zoneMoved old false

def isCool : Option Nat → Bool
  | some v => decide (v < 50)
  | none => false

/-- Every latest reading is below 50 with no sensor silent (R131). -/
def Sensor.coolEnough (s : Sensor) : Bool := !s.silent && !isHot s.reading

/-- The move from COOLDOWN to STANDBY (R131). COOLDOWN_DONE joins before the answers (log 81). -/
def Work.checkCooldown (w : Work) : Work :=
  let l := w.st.lcu
  if l.power == .cooldown && l.sensor0.coolEnough && l.sensor1.coolEnough && l.sensor2.coolEnough &&
      decide (Config.cooldownMs ≤ l.sinceExtinguish) then
    let w := w.modLcu fun l => { l with power := .standby, standbyWaiting := [] }
    ((w.event .cooldownDone []).answerAll l.standbyWaiting .ok).setFan
  else w

/-- The start-up hold ends when each sensor has delivered a reading and the highest is below 50 (R125). -/
def Lcu.checkHold (l : Lcu) : Lcu :=
  if l.startupHold && l.sensor0.reading.isSome && l.sensor1.reading.isSome && l.sensor2.reading.isSome &&
      isCool l.highest then { l with startupHold := false }
  else l

/-- TEMPERATURE_READING (R123 to R125, R131). ZONE_CHANGE joins before COOLDOWN_DONE (log 81). -/
def Work.temperatureReading (w : Work) (i : Fin 3) (v : Nat) : Work :=
  let w := w.modLcu fun l => (l.setSensor i { reading := some v, silent := false, quiet := 0 }).checkHold
  w.evaluateZone.checkCooldown

/-- SENSOR_SILENT (R123). -/
def Work.sensorSilent (w : Work) (i : Fin 3) : Work :=
  if (w.st.lcu.sensor i).silent then w
  else (w.modLcu fun l => l.setSensor i { l.sensor i with silent := true }).evaluateZone

/-! ## The fan's tach (R126) -/

/-- FAN_TACH_PULSE. -/
def Work.fanTachPulse (w : Work) : Work :=
  if w.st.lcu.fan = .off then w
  else w.modLcu fun l => { l with fanWatch := some Config.fanTachWatchMs, tachSeen := true }

/-- FAN_TACH_TIMEOUT: a fan fault stands, or its count toward clearing starts again. FAN_FAULT joins before ZONE_CHANGE
(log 81). -/
def Work.fanTachTimeout (w : Work) : Work :=
  if w.st.lcu.fanWatch.isSome then
    let old := w.st.lcu.zone
    let stood := w.st.lcu.fanFault
    let w := w.modLcu fun l => { l with fanWatch := none, tachSeen := false, clearing := 0, fanFault := true }
    if stood then w else (w.event .fanFault []).zoneMoved old true
  else w

/-- FAN_FAULT_CLEAR: tach pulses have been seen for 5 s. -/
def Work.fanFaultClear (w : Work) : Work :=
  if w.st.lcu.fanFault && w.st.lcu.tachSeen then
    let old := w.st.lcu.zone
    (w.modLcu fun l => { l with fanFault := false, clearing := 0 }).zoneMoved old true
  else w

/-! ## Power states (R129 to R132) -/

/-- Entry to COOLDOWN: what becomes of one lamp (R130). -/
def Work.cooldownLamp (w : Work) (d : DeckId) : Work :=
  let waiting := (w.lamp d).onWaiting
  let w := (w.modLamp d fun l =>
    { l with relightOwed := false, ramp := none, commanded := 0, onWaiting := [] }).answerAll waiting .wrongPowerState
  match (w.lamp d).state with
  | .lit => w.lampOut d true false .wrongPowerState
  | .inhibit => w.lampOut d false false .wrongPowerState
  | .striking .gap _ _ => w.lampOut d false false .wrongPowerState
  | .striking step left _ => w.modLamp d fun l => { l with state := .striking step left true }
  | .swapping _ left => w.modLamp d fun l => { l with state := .swapping .off left }
  | _ => w

/-- Entry to COOLDOWN (R130); the report goes to the presentation controller and the tape unit. -/
def Work.enterCooldown (w : Work) : Work :=
  let w := (w.modLcu fun l => { l with power := .cooldown }).send .cooldown
  ((w.cooldownLamp .a).cooldownLamp .b).lampChanged

/-- COOLDOWN_COUNT_EXPIRY (R131, log 4): the 60 s count has run out. -/
def Work.cooldownCountExpiry (w : Work) : Work :=
  if w.st.lcu.power = .cooldown then
    (w.modLcu fun l => { l with sinceExtinguish := max l.sinceExtinguish Config.cooldownMs }).checkCooldown
  else w

/-- WAKE's effect (R132). -/
def Work.wake (w : Work) : Work :=
  if w.st.lcu.power = .active then w
  else
    let waiting := w.st.lcu.standbyWaiting
    ((w.modLcu fun l => { l with power := .active, standbyWaiting := [] }).answerAll waiting .aborted).setFan

/-! ## Commands (R130 to R138) -/

/-- STANDBY (R130). -/
def cmdStandby (t : Ticket) (w : Work) : Work :=
  match w.st.lcu.power with
  | .standby => w.answer t .ok []
  | .cooldown => w.modLcu fun l => { l with standbyWaiting := l.standbyWaiting ++ [t] }
  | .active => (w.modLcu fun l => { l with standbyWaiting := l.standbyWaiting ++ [t] }).enterCooldown

/-- WAKE (R132): its own OK joins before the ABORTED of a withheld STANDBY (log 62). -/
def cmdWake (t : Ticket) (w : Work) : Work := (w.answer t .ok []).wake

/-- A lamp command's deck argument (R133). -/
def withDeck (t : Ticket) (deck : Byte) (f : DeckId → Work → Work) (w : Work) : Work :=
  match deckOf deck with
  | some d => f d w
  | none => w.answer t .badArgument []

/-- LAMP_ON (R134). A relight that the lamp still owes from an earlier CRITICAL zone stays owed (log 74). -/
def cmdLampOn (t : Ticket) (deck : Byte) (w : Work) : Work :=
  withDeck t deck (fun d w =>
    if w.st.lcu.power ≠ .active then w.answer t .wrongPowerState []
    else if w.st.lcu.zone = .critical then w.answer t .thermal []
    else match (w.lamp d).state with
      | .dead => w.answer t .wrongState []
      | .lit => w.answer t .ok []
      | .off => (w.modLamp d fun l => { l with onWaiting := l.onWaiting ++ [t] }).startStrike d
      | _ => w.modLamp d fun l => { l with onWaiting := l.onWaiting ++ [t] }) w

/-- LAMP_OFF (R135). A LAMP_ON that waits is answered before the LAMP_OFF that puts the lamp out (log 80). -/
def cmdLampOff (t : Ticket) (deck : Byte) (w : Work) : Work :=
  withDeck t deck (fun d w =>
    match (w.lamp d).state with
    | .lit => (w.lampOut d true false .aborted).answer t .ok []
    | .inhibit => (w.lampOut d false false .aborted).answer t .ok []
    | .striking .gap _ _ => (w.lampOut d false false .aborted).answer t .ok []
    | .striking step left _ =>
      w.modLamp d fun l => { l with state := .striking step left true, offWaiting := l.offWaiting ++ [t] }
    | .swapping _ left =>
      w.modLamp d fun l => { l with state := .swapping .off left, offWaiting := l.offWaiting ++ [t] }
    | .off => (w.modLamp d fun l => { l with relightOwed := false }).answer t .ok []
    | .dead => w.answer t .ok []) w

/-- LAMP_REPLACED (R136): a lamp that it takes out of DEAD serves again once it has been lit. -/
def cmdLampReplaced (t : Ticket) (deck : Byte) (w : Work) : Work :=
  withDeck t deck (fun d w =>
    match (w.lamp d).state with
    | .off | .dead =>
      ((w.modLamp d fun l =>
        { l with
          state := .off, primary := .good, spare := .good, active := .primary, attempts := 0
          unlit := l.unlit || l.isDead }).lampChanged).answer t .ok []
    | _ => w.answer t .wrongState []) w

/-- LAMP_STATUS's fields (R137). -/
def lampStatusFields (l : Lamp) (isPriority : Bool) : List Byte :=
  [LampState.code l.state, Filament.code l.active, Health.code l.primary, Health.code l.spare, byte l.commanded,
    byte l.granted, byte l.output, optByte (l.ramp.map fun r => r.target)] ++
  optWord (l.ramp.map fun r => r.left) ++
  [Bool.code (!l.claim), byte l.attempts, Bool.code l.relightOwed] ++ optWord l.inhibit ++ [Bool.code isPriority]

/-- LAMP_STATUS (R137). -/
def cmdLampStatus (t : Ticket) (deck : Byte) (w : Work) : Work :=
  withDeck t deck (fun d w => w.answer t .ok (lampStatusFields (w.lamp d) (w.st.lcu.priority == d))) w

/-- A sensor in THERMAL_READ: its reading, absent until it has read, and its mark (R138). -/
def Sensor.bytes (s : Sensor) : List Byte := [optByte s.reading, Bool.code s.silent]

/-- THERMAL_READ's fields (R138). -/
def thermalFields (l : Lcu) : List Byte :=
  l.sensor0.bytes ++ l.sensor1.bytes ++ l.sensor2.bytes ++
  [Zone.code l.readingZone, Zone.code l.zone, byte l.zone.budget, Fan.code l.fan, Bool.code l.tachSeen,
    Bool.code l.fanFault] ++ word l.clearing ++
  [Bool.code l.startupHold, Power.code l.power, byte (min 255 (l.sinceExtinguish / 1000))]

/-- THERMAL_READ (R138). -/
def cmdThermalRead (t : Ticket) (w : Work) : Work := w.answer t .ok (thermalFields w.st.lcu)

/-! ## Resets and the passing of time -/

/-- A part reset: one lamp (R112). -/
def Work.resetLamp (w : Work) (d : DeckId) : Work :=
  let l := w.lamp d
  let st := match l.state with
    | .swapping _ left => LampState.swapping .off left
    | .dead => LampState.dead
    | _ => LampState.off
  let w := w.modLamp d fun l =>
    { l with
      state := st, commanded := 0, granted := 0, output := 0, ramp := none, fade := none, attempts := 0
      relightOwed := false, onWaiting := [], offWaiting := []
      inhibit := if l.burning then some Config.restrikeInhibitMs else l.inhibit }
  let w := if l.burning then w.modLcu fun c => { c with sinceExtinguish := 0 } else w
  if l.fade.isSome then w.send (.dark d) else w

/-- A part reset (R112). -/
def Work.resetLcu (w : Work) : Work :=
  let w := (w.resetLamp .a).resetLamp .b
  (w.modLcu fun l => { l with priority := .a, standbyWaiting := [] }).setFan

def tickOpt : Option Nat → Option Nat := Option.map fun n => n - 1

def LampState.tick : LampState → LampState
  | .striking step left offAfter => .striking step (left - 1) offAfter
  | .swapping after watch => .swapping after (watch - 1)
  | s => s

/-- One millisecond; ramps and fades move at RAMP_STEP (log 3). -/
def Lamp.tick (l : Lamp) : Lamp := { l with state := l.state.tick, inhibit := tickOpt l.inhibit }

def Sensor.tick (s : Sensor) : Sensor := { s with quiet := s.quiet + 1 }

/-- One millisecond (log 3). -/
def Lcu.tick (l : Lcu) : Lcu :=
  { l with
    sensor0 := l.sensor0.tick, sensor1 := l.sensor1.tick, sensor2 := l.sensor2.tick
    fanWatch := tickOpt l.fanWatch
    clearing := if l.fanFault && l.tachSeen then l.clearing + 1 else l.clearing
    sinceExtinguish := l.sinceExtinguish + 1 }

end Sys2Proof.Machine
end

