-- ==== Sys2Proof/Machine/Deck.lean ====
section
/-! DEFINITION. The deck controllers (02_deck_mechanism.md, 03_slide_faults_and_recovery.md): operations, the recovery
ladder, faults, the orders of the presentation controller, the deck's sensors and its resets. -/

namespace Sys2Proof.Machine

/-! ## Tray maps (R1 to R3) -/

/-- A fresh tray map (R1). -/
def freshMap (size : TraySize) : TrayMap :=
  let n := match size with | .short => 64 | .long => 100
  { size := n
    slots := { presence := .empty, faults := 0, pass := none } ::
      List.replicate (n - 1) { presence := .unknown, faults := 0, pass := none } }

/-- Write the record of position `s`; position 0 is the gap and never changes (R2). -/
def Deck.writeSlot (x : Deck) (s : Nat) (f : SlotRecord → SlotRecord) : Deck :=
  if s = 0 then x else { x with map := x.map.map fun m => { m with slots := m.slots.modify s f } }

/-- Sense the slot at the gate (R3). -/
def Deck.sense (x : Deck) (present : Bool) : Deck :=
  match x.position with
  | some p => x.writeSlot p fun r =>
      { r with presence := if present then .present else .empty, pass := some x.pass }
  | none => x

/-- Write a fault count; SLOT_BAD when it rises from 3 or less to 4 or more (R2). -/
def Work.setFaults (w : Work) (d : DeckId) (s n : Nat) : Work :=
  match (w.deck d).slot? s with
  | none => w
  | some r =>
    let w := w.modDeck d fun x => x.writeSlot s fun r => { r with faults := n }
    if r.faults ≤ 3 ∧ 4 ≤ n then w.event .slotBad [DeckId.code d, byte s] else w

/-- The effect of SLOT_MARK (R70). -/
def Work.markSlot (w : Work) (d : DeckId) (s : Nat) : Work := w.setFaults d s 7

/-- The effect of SLOT_RELOAD (R71). -/
def Work.reloadSlot (w : Work) (d : DeckId) (s : Nat) : Work :=
  w.modDeck d fun x => x.writeSlot s fun r => { r with faults := 0, presence := .unknown }

/-- The slot is the target of a CHANGE whose ladder stage is 1 to 5, running or suspended (R71). -/
def Deck.ladderOn (x : Deck) (s : Nat) : Bool :=
  match x.ladder with
  | some (t, stage) => t == s && decide (1 ≤ stage)
  | none => false

/-! ## The operation record -/

def Deck.op? (x : Deck) : Option Operation :=
  match x.state with
  | .busy op => some op
  | _ => none

def Work.setDeckState (w : Work) (d : DeckId) (st : DeckState) : Work := w.modDeck d fun x => { x with state := st }

def Work.modOp (w : Work) (d : DeckId) (f : Operation → Operation) : Work :=
  w.modDeck d fun x =>
    match x.state with
    | .busy op => { x with state := .busy (f op) }
    | _ => x

/-- A new operation record (R28). -/
def Operation.new (kind : OpKind) (target : Nat) (requester : Requester) (fromUnhomed : Bool) : Operation where
  kind := kind
  target := target
  phase := .lift
  stage := 0
  requester := requester
  drive := none
  watch := none
  pulses := 0
  scanLeft := 0
  scanSlips := 0
  autoHomeUsed := false
  suspended := none
  stopHeld := false
  stopEmpty := false
  retargetHeld := none
  abortHeld := false
  fromUnhomed := fromUnhomed
  resetting := false

/-- The requester and kind of the operation, or of the one suspended behind an automatic HOME (R66). -/
def Operation.owner (op : Operation) : Requester :=
  match op.suspended with
  | some s => s.requester
  | none => op.requester

def Operation.ownKind (op : Operation) : OpKind :=
  match op.suspended with
  | some s => s.kind
  | none => op.kind

def Operation.ownTarget (op : Operation) : Nat :=
  match op.suspended with
  | some s => s.target
  | none => op.target

def Operation.ownStage (op : Operation) : Nat :=
  match op.suspended with
  | some s => s.stage
  | none => op.stage

/-- Answer a HOST requester. -/
def Work.answerHost (w : Work) (r : Requester) (status : Status) (fields : List Byte) : Work :=
  match r with
  | .host t => w.answer t status fields
  | _ => w

/-! ## Faults (R43, R61, R64, R65) -/

/-- Enter FAULT. `held` is the disposition HELD of a failed automatic HOME (R66). After a part reset the event names the
kind of the operation that the reset dropped (log 71). -/
def Work.enterFault (w : Work) (d : DeckId) (kind : FaultKind) (held : Bool) : Work :=
  match (w.deck d).op? with
  | none => w
  | some op =>
    let position := match kind with | .jam => (w.deck d).position | _ => none
    let w := w.modDeck d fun x => { x with state := .fault kind, position := position }
    let w := w.event .deckFault
      ([DeckId.code d, FaultKind.code kind, OpKind.code op.ownKind, optByte position] ++ if held then [1] else [])
    let w := match kind with | .jam => w | _ => w.releaseClaim d
    match op.owner with
    | .host t => (w.answer t .fault []).send (.faulted d)
    | .presentation =>
      w.send (.changeEnded d op.ownTarget (if op.ownStage = 5 then .failed else .fault) false)
    | .internal => w.send (.faulted d)

/-! ## The drive (R31, R34) -/

/-- The shorter way from `p` to `t` in a tray of size T; a tie goes forward (R34). -/
def shortWay (p t size : Nat) : Direction :=
  if (t + size - p) % size ≤ (p + size - t) % size then .forward else .backward

/-- The rotation distance (R30). -/
def rotationDistance (p t size : Nat) : Nat := min ((t + size - p) % size) ((p + size - t) % size)

/-- The drive starts, unless the gate sensor reads made (R31). -/
def Work.startDrive (w : Work) (d : DeckId) (dir : Direction) : Work :=
  if (w.deck d).gateMade then w.enterFault d .jam false
  else w.modOp d fun op => { op with drive := some dir, watch := some Config.slotPulseWatchMs }

def Work.stopDrive (w : Work) (d : DeckId) : Work := w.modOp d fun op => { op with drive := none, watch := none }

/-- ROTATE begins towards the operation's target (R34); `used` says whether its automatic HOME is used up (R67). -/
def Work.startRotate (w : Work) (d : DeckId) (used : Bool) : Work :=
  let w := w.modOp d fun op => { op with phase := .rotate, autoHomeUsed := used, drive := none, watch := none }
  match (w.deck d).op?, (w.deck d).position, (w.deck d).size with
  | some op, some p, some size => if p = op.target then w else w.startDrive d (shortWay p op.target size)
  | _, _, _ => w

/-- SEEK_INDEX begins (R40). -/
def Work.startSeek (w : Work) (d : DeckId) : Work :=
  (w.modOp d fun op => { op with phase := .seekIndex, pulses := 0, drive := none, watch := none }).startDrive d .forward

/-! ## LIFT and DROP begin with darkness (R32, R33, R35) -/

/-- The claim is placed, unless the deck holds it; a claim held over an output of 0 is answered at once (R32). -/
def Work.claimDark (w : Work) (d : DeckId) : Work :=
  let l := w.lamp d
  if l.claim then (if l.output = 0 ∧ l.fade.isNone then w.send (.dark d) else w) else w.placeClaim d

def Work.beginLift (w : Work) (d : DeckId) : Work :=
  (w.modOp d fun op => { op with phase := .lift, drive := none, watch := none }).claimDark d

/-! ## Starting operations (R40 to R42, R46) -/

/-- Begin a HOME, CENSUS or RELEASE (R40 to R42): a LIFT first if the gate sensor reads made. A claim kept through a
part reset is released when there is no LIFT (R46). -/
def Work.startOperation (w : Work) (d : DeckId) (kind : OpKind) (requester : Requester) : Work :=
  let fromUnhomed := match (w.deck d).state with | .unhomed _ => true | _ => false
  let w := w.setDeckState d (.busy (Operation.new kind 0 requester fromUnhomed))
  let w := if kind = .census then w.modDeck d fun x => { x with censusOwed := false } else w
  if (w.deck d).gateMade then w.beginLift d
  else
    let w := w.releaseClaim d
    if kind = .release ∧ (w.deck d).position.isSome then w.startRotate d false else w.startSeek d

/-- The deck becomes UNHOMED and begins a self-HOME (R46, R55). -/
def Work.selfHome (w : Work) (d : DeckId) : Work :=
  (w.modDeck d fun x => { x with state := .unhomed 0, position := none }).startOperation d .home .internal

/-! ## CHANGE: orders and ends (R36 to R39) -/

/-- A CHANGE order (R36). -/
def Work.orderChange (w : Work) (d : DeckId) (t : Nat) : Work :=
  match (w.deck d).state, (w.deck d).size with
  | .idle gate, some size =>
    if size ≤ t then w.send (.changeEnded d t .emptySlot false)
    else
      let busy := w.setDeckState d (.busy (Operation.new .change t .presentation false))
      match gate with
      | .loaded s => if s = t then w.send (.changeEnded d t .clean false) else busy.beginLift d
      | .empty => busy.startRotate d false
  | _, _ => w.send (.changeEnded d t .unavailable false)

/-- A CHANGE ends with the deck IDLE: it reports, and a held retarget begins its CHANGE at once (R39, R63). -/
def Work.endChange (w : Work) (d : DeckId) (gate : Gate) (outcome : ChangeOutcome) : Work :=
  match (w.deck d).op? with
  | none => w
  | some op =>
    let w := (w.setDeckState d (.idle gate)).releaseClaim d
    match op.retargetHeld, op.stopHeld with
    | some u, false => (w.send (.changeEnded d op.target outcome true)).orderChange d u
    | _, _ => w.send (.changeEnded d op.target outcome false)

/-- The outcome of a CHANGE that a STOP ends (R38), or a retarget beyond the tray (R39); EMPTY_SLOT when both are held
(log 70). -/
def Operation.stopOutcome (op : Operation) : ChangeOutcome := if op.stopEmpty then .emptySlot else .stopped

/-- A STOP order (R38, R63, R67): held until the phase, the ladder or the automatic HOME ends. One that finds a
retarget beyond the tray held leaves that one's outcome, EMPTY_SLOT (log 70). A retarget that is held is discarded, by
R63 in a ladder and by the model's choice in a DROP or a SETTLE of stage 0 (log 88). -/
def Work.stopChange (w : Work) (d : DeckId) : Work :=
  if (w.deck d).changing then w.modOp d fun op => { op with stopHeld := true, retargetHeld := none } else w

/-- A retarget order (R39, R63, R67). It replaces one that was taken before it, one beyond the tray included; so one
that names the current target discards a retarget that is held (log 55). -/
def Work.retarget (w : Work) (d : DeckId) (u : Nat) : Work :=
  match (w.deck d).changing, (w.deck d).op?, (w.deck d).size with
  | true, some op, some size =>
    let w := if op.stopEmpty then w.modOp d fun op => { op with stopHeld := false, stopEmpty := false } else w
    if size ≤ u then w.modOp d fun op => { op with stopHeld := true, stopEmpty := true, retargetHeld := none }
    else if u = op.ownTarget then w.modOp d fun op => { op with retargetHeld := none }
    else if op.ownStage ≥ 1 then w.modOp d fun op => { op with retargetHeld := some u }
    else match op.suspended with
      | some s => w.modOp d fun op => { op with suspended := some { s with target := u } }
      | none => match op.phase, op.drive with
        | .lift, _ => w.modOp d fun op => { op with target := u }
        | .rotate, some _ => w.modOp d fun op => { op with target := u }
        | .rotate, none => (w.modOp d fun op => { op with target := u }).startRotate d op.autoHomeUsed
        | _, _ => w.modOp d fun op => { op with retargetHeld := some u }
  | _, _, _ => w.orderChange d u

/-! ## The recovery ladder (R56 to R62) -/

/-- The ladder stage rises to `n` and is reported (R56). -/
def Work.reportStage (w : Work) (d : DeckId) (n : Nat) : Work :=
  match (w.deck d).op? with
  | none => w
  | some op => (w.modOp d fun op => { op with stage := n }).send (.ladder d op.target n)

/-- Stage 5 (R61): the slot is marked, then the lift cycle. -/
def Work.enterStage5 (w : Work) (d : DeckId) : Work :=
  match (w.deck d).op? with
  | none => w
  | some op => ((w.reportStage d 5).setFaults d op.target 7).beginLift d

/-- The DROP of a ladder begins, or the ladder advances to stage 5 (R60). -/
def Work.ladderDrop (w : Work) (d : DeckId) : Work :=
  match (w.deck d).op? with
  | none => w
  | some op =>
    if (w.deck d).mayDrop op.target then
      (w.modOp d fun op => { op with phase := .drop, drive := none, watch := none }).claimDark d
    else w.enterStage5 d

/-- The normal DROP of a CHANGE begins (R35). -/
def Work.firstDrop (w : Work) (d : DeckId) : Work :=
  ((w.modOp d fun op => { op with phase := .drop, drive := none, watch := none }).send (.dropBegan d)).claimDark d

/-- The next ladder stage begins (R56 to R61). -/
def Work.nextStage (w : Work) (d : DeckId) : Work :=
  match (w.deck d).op? with
  | none => w
  | some op =>
    match op.stage with
    | 0 => (w.reportStage d 1).beginLift d
    | 1 => (w.reportStage d 2).beginLift d
    | 2 => if (w.deck d).gateMade then (w.reportStage d 3).beginLift d else (w.reportStage d 3).startSeek d
    | 3 => if (w.deck d).gateMade then (w.reportStage d 4).beginLift d else (w.reportStage d 4).ladderDrop d
    | _ => w.enterStage5 d

/-! ## Ends of phases -/

/-- A LIFT has ended with the gate clear (R33, R38, R55, R57 to R61). -/
def Work.liftEnds (w : Work) (d : DeckId) : Work :=
  match (w.deck d).op? with
  | none => w
  | some op =>
    let w := w.modOp d fun op => { op with watch := none }
    if op.resetting then w.selfHome d
    else if op.suspended.isSome then (if op.ownKind = .change then w else w.releaseClaim d).startSeek d
    else match op.kind with
      | .change => match op.stage with
        | 0 => if op.stopHeld then w.endChange d .empty op.stopOutcome else w.startRotate d false
        | 3 => w.startSeek d
        | 5 => w.endChange d .empty .failed
        | _ => w.ladderDrop d
      | .release =>
        let w := w.releaseClaim d
        if op.abortHeld then
          if (w.deck d).position.isSome then (w.setDeckState d (.idle .empty)).answerHost op.requester .aborted []
          else (w.selfHome d).answerHost op.requester .aborted []
        else if (w.deck d).position.isSome then w.startRotate d false
        else w.startSeek d
      | _ => (w.releaseClaim d).startSeek d

/-- A DROP has ended with the gate made: SETTLE begins (R35). After a part reset the phase DROP is all that was left to
run (R46). -/
def Work.dropEnds (w : Work) (d : DeckId) : Work :=
  match (w.deck d).op? with
  | none => w
  | some op =>
    if op.resetting then w.selfHome d
    else w.modOp d fun op => { op with phase := .settle, watch := some Config.settleMs }

/-- The LCU reports that the claimed lamp's output is 0: the lifter moves and the watch starts (R32, R33, R35). -/
def Work.darkAnswered (w : Work) (d : DeckId) : Work :=
  let l := w.lamp d
  match (w.deck d).op? with
  | none => w
  | some op =>
    if l.claim && l.output == 0 && op.watch.isNone then
      match op.phase, (w.deck d).gateMade with
      | .lift, true => w.modOp d fun op => { op with watch := some Config.liftWatchMs }
      | .lift, false => w.liftEnds d
      | .drop, true => w.dropEnds d
      | .drop, false => w.modOp d fun op => { op with watch := some Config.dropWatchMs }
      | _, _ => w
    else w

/-- A HOME has found the index (R40): a CENSUS owed begins at once when the HOME began from UNHOMED. -/
def Work.homeEnds (w : Work) (d : DeckId) (op : Operation) : Work :=
  let w := (w.setDeckState d (.idle .empty)).answerHost op.requester .ok []
  if op.fromUnhomed ∧ (w.deck d).censusOwed then w.startOperation d .census .internal else w

/-- SCAN begins (R41). -/
def Work.startScan (w : Work) (d : DeckId) : Work :=
  let size := (w.deck d).size.getD 0
  let w := w.modDeck d fun x => { x with pass := (x.pass + 1) % 256 }
  (w.modOp d fun op => { op with phase := .scan, scanLeft := size, scanSlips := 0 }).startDrive d .forward

/-- UNLATCHED begins (R42). -/
def Work.unlatch (w : Work) (d : DeckId) : Work :=
  (w.modDeck d fun x => { x with latchClosed := false }).modOp d fun op =>
    { op with phase := .unlatched, drive := none, watch := none }

/-- SEEK_INDEX has found the index at position 0 (R40 to R42, R58, R66, R67). A STOP or an ABORT that the ROTATE still held
when its watch expired ends the operation at the end of its automatic HOME (log 85). -/
def Work.seekEnds (w : Work) (d : DeckId) : Work :=
  match (w.deck d).op? with
  | none => w
  | some op =>
    let w := w.stopDrive d
    match op.suspended with
    | some s =>
      let w := w.modOp d fun op =>
        { op with kind := s.kind, target := s.target, requester := s.requester, stage := s.stage, suspended := none }
      match s.kind with
      | .change => if op.stopHeld ∧ s.stage = 0 then w.endChange d .empty op.stopOutcome else w.startRotate d true
      | _ =>
        if op.abortHeld then (w.setDeckState d (.idle .empty)).answerHost s.requester .aborted []
        else w.startRotate d true
    | none => match op.kind with
      | .change => w.startRotate d false
      | .home => w.homeEnds d op
      | .census =>
        if op.abortHeld then (w.setDeckState d (.idle .empty)).answerHost op.requester .aborted []
        else w.startScan d
      | .release =>
        if op.abortHeld then (w.setDeckState d (.idle .empty)).answerHost op.requester .aborted []
        else w.unlatch d

/-! ## The deck's events -/

/-- The position after one step in the direction of rotation (R30). -/
def stepPosition (p size : Nat) : Direction → Nat
  | .forward => (p + 1) % size
  | .backward => (p + size - 1) % size

/-- Count a slot pulse and take an index pulse (R30). -/
def Deck.countPulse (x : Deck) (dir : Direction) (index : Bool) : Deck :=
  match x.position, x.size with
  | some p, some size =>
    let q := stepPosition p size dir
    if index then { x with position := some 0, slips := if q = 0 then x.slips else sat255 x.slips }
    else { x with position := some q }
  | _, _ => if index then { x with position := some 0 } else x

/-- A slot pulse in ROTATE (R34, R38, R39, R55). -/
def Work.rotatePulse (w : Work) (d : DeckId) (op : Operation) (present : Bool) : Work :=
  if op.kind = .change ∧ op.stage = 0 ∧ op.stopHeld then
    ((w.stopDrive d).modDeck d fun x => x.sense present).endChange d .empty op.stopOutcome
  else if op.abortHeld then
    (((w.modDeck d fun x => x.sense present).setDeckState d (.idle .empty)).answerHost op.requester .aborted [])
  else match (w.deck d).position, (w.deck d).size with
    | some p, some size =>
      if p = op.target then w.stopDrive d
      else w.modOp d fun op =>
        { op with drive := some (shortWay p op.target size), watch := some Config.slotPulseWatchMs }
    | _, _ => w

/-- A slot pulse in SEEK_INDEX (R40, R55). -/
def Work.seekPulse (w : Work) (d : DeckId) (op : Operation) (index : Bool) : Work :=
  if index then w.seekEnds d
  else if op.suspended.isNone ∧ op.kind = .release ∧ op.abortHeld then
    (w.selfHome d).answerHost op.requester .aborted []
  else
    let n := op.pulses + 1
    let w := w.modOp d fun op => { op with pulses := n, watch := some Config.slotPulseWatchMs }
    if (w.deck d).size.getD 0 + 4 ≤ n then w.stopDrive d else w

/-- A slot pulse in SCAN ends a step (R41, R55). The last step ends the scan whether its pulse is an index pulse or not
(log 56). -/
def Work.scanPulse (w : Work) (d : DeckId) (op : Operation) (index present : Bool) : Work :=
  let size := (w.deck d).size.getD 0
  if index ∧ 1 < op.scanLeft then
    if 1 ≤ op.scanSlips then w.enterFault d .index false
    else if op.abortHeld then (w.setDeckState d (.idle .empty)).answerHost op.requester .aborted []
    else (w.modOp d fun op => { op with scanLeft := size, scanSlips := op.scanSlips + 1 }).startDrive d .forward
  else
    let w := w.modDeck d fun x => x.sense present
    if op.abortHeld then (w.setDeckState d (.idle .empty)).answerHost op.requester .aborted []
    else
      let w := w.modOp d fun op => { op with scanLeft := op.scanLeft - 1 }
      if op.scanLeft ≤ 1 then w.stopDrive d else w.startDrive d .forward

/-- SLOT_PULSE (R30): taken only while the deck rotates its tray. -/
def Work.slotPulse (w : Work) (d : DeckId) (index present : Bool) : Work :=
  let w := w.modDeck d fun x => { x with indexMade := index, slotPresent := present }
  match (w.deck d).op? with
  | none => w
  | some op => match op.drive with
    | none => w
    | some dir =>
      if op.resetting then w.selfHome d
      else
        let w := w.modDeck d fun x => x.countPulse dir index
        match op.phase with
        | .rotate => w.rotatePulse d op present
        | .seekIndex => w.seekPulse d op index
        | .scan => w.scanPulse d op index present
        | _ => w

/-- ROTATE_DISTANCE_END is due: the tray stands at the target with the drive stopped (R34). -/
def Deck.rotateEndDue (x : Deck) : Bool :=
  match x.state with
  | .busy op => op.phase == .rotate && op.drive.isNone && x.position == some op.target
  | _ => false

/-- ROTATE_DISTANCE_END (R34 to R36, R42). A STOP or an ABORT taken after the last slot pulse ends the operation here,
with no DROP and no UNLATCHED (R38, R55, log 84). -/
def Work.rotateDistanceEnd (w : Work) (d : DeckId) (present : Bool) : Work :=
  if (w.deck d).rotateEndDue then
    let w := w.modDeck d fun x => ({ x with slotPresent := present }).sense present
    match (w.deck d).op? with
    | none => w
    | some op => match op.kind with
      | .change =>
        if op.stage ≠ 0 then w.ladderDrop d
        else if op.stopHeld then w.endChange d .empty op.stopOutcome
        else match (w.deck d).slot? op.target with
          | some r =>
            if r.presence = .empty then w.endChange d .empty .emptySlot
            else if 4 ≤ r.faults then w.endChange d .empty .badSlot
            else w.firstDrop d
          | none => w.endChange d .empty .emptySlot
      | _ =>
        if op.abortHeld then (w.setDeckState d (.idle .empty)).answerHost op.requester .aborted []
        else w.unlatch d
  else w

/-- INDEX_SEARCH_LIMIT is due: T+4 slot pulses with no index (R40). -/
def Deck.searchLimitDue (x : Deck) : Bool :=
  match x.state with
  | .busy op => op.phase == .seekIndex && op.drive.isNone && decide (x.size.getD 0 + 4 ≤ op.pulses)
  | _ => false

/-- INDEX_SEARCH_LIMIT (R40, R66). -/
def Work.indexSearchLimit (w : Work) (d : DeckId) : Work :=
  match (w.deck d).searchLimitDue, (w.deck d).op? with
  | true, some op => if op.suspended.isSome then w.enterFault d .drive true else w.enterFault d .index false
  | _, _ => w

/-- CENSUS_SCAN_COMPLETE is due: the T steps have ended (R41). -/
def Deck.scanDue (x : Deck) : Bool :=
  match x.state with
  | .busy op => op.phase == .scan && op.drive.isNone && op.scanLeft == 0
  | _ => false

/-- The number of PRESENT slots in a map (R41). -/
def Deck.presentCount (x : Deck) : Nat :=
  match x.map with
  | some m => m.slots.countP fun r => r.presence == .present
  | none => 0

/-- CENSUS_SCAN_COMPLETE (R41, R49). An ABORT taken after the last slot pulse comes too late: the census has its T steps
(log 57). CENSUS_DONE joins first, then the DECK_CENSUS's OK, then a CENSUS_MISMATCH (log 81). -/
def Work.censusScanComplete (w : Work) (d : DeckId) : Work :=
  match (w.deck d).scanDue, (w.deck d).op? with
  | true, some op =>
    let pass := byte (w.deck d).pass
    let n := byte (w.deck d).presentCount
    let w := (w.setDeckState d (.idle .empty)).event .censusDone [DeckId.code d, pass, n]
    (w.answerHost op.requester .ok [pass, n]).send (.censusDone d)
  | _, _ => w

/-- The automatic HOME begins: the operation is suspended behind it (R66). The record's own ladder stage, which
DECK_STATUS shows, is 0 until the suspended operation returns (log 58). -/
def Work.automaticHome (w : Work) (d : DeckId) (op : Operation) : Work :=
  let w := w.modDeck d fun x => { x with position := none }
  let w := w.event .deckFault [DeckId.code d, FaultKind.code .drive, OpKind.code op.kind, 255, 0]
  let w := w.modOp d fun op =>
    { op with
      kind := .home, target := 0, requester := .internal, stage := 0, drive := none, watch := none
      suspended := some { kind := op.kind, target := op.target, requester := op.requester, stage := op.stage } }
  if (w.deck d).gateMade then w.beginLift d else w.startSeek d

/-- SLOT_PULSE_WATCH_EXPIRY (R31, R46, R66, R67). -/
def Work.slotPulseWatchExpiry (w : Work) (d : DeckId) : Work :=
  match (w.deck d).op? with
  | none => w
  | some op =>
    if op.drive.isNone then w
    else if op.resetting then w.selfHome d
    else match op.phase with
      | .rotate => if op.autoHomeUsed then w.enterFault d .drive false else w.automaticHome d op
      | _ => w.enterFault d .drive op.suspended.isSome

/-- GATE_SENSOR_CLEARS (R33). -/
def Work.gateClears (w : Work) (d : DeckId) : Work :=
  let w := w.modDeck d fun x => { x with gateMade := false }
  match (w.deck d).op? with
  | some op => if op.phase = .lift ∧ op.watch.isSome then w.liftEnds d else w
  | none => w

/-- GATE_SENSOR_MAKES (R31, R35, R46). -/
def Work.gateMakes (w : Work) (d : DeckId) : Work :=
  let w := w.modDeck d fun x => { x with gateMade := true }
  match (w.deck d).op? with
  | some op =>
    if op.drive.isSome then w.enterFault d .jam false
    else if op.phase = .drop ∧ op.watch.isSome then w.dropEnds d
    else w
  | none => w

/-- LIFT_WATCH_EXPIRY (R33, R61). -/
def Work.liftWatchExpiry (w : Work) (d : DeckId) : Work :=
  match (w.deck d).op? with
  | some op => if op.phase = .lift ∧ op.watch.isSome then w.enterFault d .jam false else w
  | none => w

/-- DROP_WATCH_EXPIRY (R35, R46, R56). -/
def Work.dropWatchExpiry (w : Work) (d : DeckId) : Work :=
  match (w.deck d).op? with
  | some op =>
    if op.phase = .drop ∧ op.watch.isSome then (if op.resetting then w.selfHome d else w.nextStage d) else w
  | none => w

/-- The outcome of a drop that succeeds at a ladder stage, and what it adds to the fault count (R62). -/
def stageOutcome : Nat → ChangeOutcome × Nat
  | 0 => (.clean, 0)
  | 1 => (.soft, 1)
  | 2 => (.soft, 1)
  | _ => (.firm, 2)

/-- SETTLE_END (R35, R62). -/
def Work.settleEnd (w : Work) (d : DeckId) : Work :=
  match (w.deck d).op? with
  | none => w
  | some op =>
    if op.phase ≠ .settle then w
    else if op.resetting then w.selfHome d
    else
      let (outcome, weight) := stageOutcome op.stage
      let faults := match (w.deck d).slot? op.target with | some r => r.faults | none => 0
      let w := if weight = 0 then w else w.setFaults d op.target (min 7 (faults + weight))
      w.endChange d (.loaded ((w.deck d).position.getD op.target)) outcome

/-- TRAY_INSERTION (R1, R44). -/
def Work.trayInsertion (w : Work) (d : DeckId) (size : TraySize) : Work :=
  let w := w.modDeck d fun x => { x with seated := true, sizeCode := size }
  match (w.deck d).state with
  | .absent =>
    (w.modDeck d fun x =>
      { x with
        state := .unhomed Config.seatSettleMs, position := none, map := some (freshMap size), latchClosed := true
        slips := 0, censusOwed := x.censusOnLoad }).send (.inserted d)
  | _ => w

/-- SEAT_SETTLE_EXPIRY (R44). -/
def Work.seatSettleExpiry (w : Work) (d : DeckId) : Work :=
  match (w.deck d).state with
  | .unhomed _ => w.startOperation d .home .internal
  | _ => w

/-- What a removal does with the operation in progress (R42, R45). After a part reset the event names the kind of the
operation that the reset dropped (log 71). -/
def Work.removalAnswer (w : Work) (d : DeckId) (st : DeckState) : Work :=
  match st with
  | .busy op =>
    if op.phase = .unlatched then w.answerHost op.requester .ok []
    else
      let w := w.event .deckFault [DeckId.code d, trayFaultCode, OpKind.code op.ownKind, 255]
      match op.owner with
      | .host t => w.answer t .fault []
      | .presentation => w.send (.changeEnded d op.ownTarget .fault false)
      | .internal => w
  | _ => w

/-- TRAY_REMOVAL (R1, R45). -/
def Work.trayRemoval (w : Work) (d : DeckId) : Work :=
  let st := (w.deck d).state
  let w := w.modDeck d fun x => { x with seated := false }
  match st with
  | .absent => w
  | _ =>
    let w := w.modDeck d fun x =>
      { x with state := .absent, map := none, position := none, censusOwed := false, latchClosed := false }
    ((w.releaseClaim d).removalAnswer d st).send (.absent d)

/-! ## ABORT of a deck command (R55, R67) -/

def Work.abortDeckOp (w : Work) (d : DeckId) : Work :=
  match (w.deck d).op? with
  | none => w
  | some op =>
    match op.ownKind, op.phase with
    | .census, _ => w.modOp d fun op => { op with abortHeld := true }
    | .release, .unlatched =>
      ((w.modDeck d fun x => { x with latchClosed := true }).setDeckState d (.idle .empty)).answerHost
        op.requester .aborted []
    | .release, _ => w.modOp d fun op => { op with abortHeld := true }
    | _, _ => w

/-! ## Part reset and the passing of time -/

/-- A part reset (R29, R46). A phase that runs to its end keeps the kind of the dropped operation (log 18, 71). -/
def Work.resetDeck (w : Work) (d : DeckId) : Work :=
  let w := w.modDeck d fun x => { x with latchClosed := true }
  match (w.deck d).state with
  | .absent => w
  | .fault .jam => w
  | .fault _ => w.modDeck d fun x => { x with position := none }
  | .unhomed _ => w.selfHome d
  | .idle _ => w.selfHome d
  | .busy op =>
    let w := w.modDeck d fun x => { x with position := none }
    let ends := w.modOp d fun op =>
      { Operation.new op.kind op.target .internal false with
        phase := op.phase, drive := op.drive, watch := op.watch, resetting := true }
    match op.phase, op.drive with
    | .lift, _ => ends
    | .drop, _ => ends
    | .settle, _ => ends
    | _, some _ => ends
    | _, none => w.selfHome d

/-- A deck at a power-on reset, its sensors as they stand (R1, R29). With no tray seated no census is owed (log 83). -/
def Deck.powerOn (x : Deck) : Deck :=
  let pins : Deck :=
    { Deck.reset with
      gateMade := x.gateMade, seated := x.seated, sizeCode := x.sizeCode, indexMade := x.indexMade
      slotPresent := x.slotPresent }
  if x.seated then
    { pins with
      state := .unhomed Config.seatSettleMs, map := some (freshMap x.sizeCode), latchClosed := true, censusOwed := true }
  else pins

/-- One millisecond (log 3). -/
def Deck.tick (x : Deck) : Deck :=
  match x.state with
  | .unhomed n => { x with state := .unhomed (n - 1) }
  | .busy op => { x with state := .busy { op with watch := tickOpt op.watch } }
  | _ => x

end Sys2Proof.Machine
end

