-- ==== Sys2Proof/Machine/Tape.lean ====
section
/-! DEFINITION. The tape unit (06_tape_sound_and_cues.md): transport, cue decoder, cue map and chase, recording, sound,
its commands, events and resets. -/

namespace Sys2Proof.Machine

/-! ## The cue word (R149, R219) -/

/-- One bit of the CRC-8 with polynomial 07h (R219). -/
def crcBit (reg : Nat) (bit : Bool) : Nat :=
  let shifted := reg * 2 % 256
  if (decide (128 ≤ reg)) != bit then shifted ^^^ 7 else shifted

/-- The check of a cue word over its kind, its argument and four 0 bits (R219). -/
def cueCheck (kind arg : Nat) : Nat :=
  let msg := kind * 4096 + arg * 16
  (List.range 16).foldl (fun reg i => crcBit reg (msg.testBit (15 - i))) 0

/-- A cue word as the encoder writes it: kind, argument and sequence, then the check (R149, R219). -/
def encodeWord (kind arg seq : Nat) : BitVec 24 :=
  BitVec.ofNat 24 (kind * 2 ^ 20 + arg * 2 ^ 12 + seq * 2 ^ 8 + cueCheck kind arg)

/-- The fields of a cue word: kind, argument, sequence, check (11.3). -/
def wordKind (w : BitVec 24) : Nat := w.toNat / 2 ^ 20

def wordArg (w : BitVec 24) : Nat := w.toNat / 2 ^ 12 % 256

def wordSeq (w : BitVec 24) : Nat := w.toNat / 2 ^ 8 % 16

def wordCheck (w : BitVec 24) : Nat := w.toNat % 256

/-! ## Encoder words and the recording pass (R161 to R164) -/

/-- Answer the CUE_INSERT of a word that is lost (R164). -/
def Work.dropCue (w : Work) (c : OwedCue) : Work := w.answerOpt c.ticket .aborted

/-- A word being written is cut, and a holding word discarded (R164). -/
def Work.cutWord (w : Work) : Work :=
  let t := w.st.tape
  let w := w.modTape fun t => { t with writing := none, holding := none }
  let w := match t.writing with
    | some x =>
      let w := if x.inMap then w.modTape fun t => { t with map := t.map.dropLast } else w
      let n := if t.holding.isSome then 2 else 1
      (w.event .cueCut (word x.start ++ [byte x.seq, byte n])).dropCue x.cue
    | none => w
  match t.holding with
  | some c => w.dropCue c
  | none => w

/-- The recording pass, if open, ends (R161). -/
def Work.endPass (w : Work) : Work :=
  match w.st.tape.pass with
  | none => w
  | some _ => (w.modTape fun t => { t with pass := none, expected := none }).cutWord

/-- A pending pause is discarded; a TAPE_PAUSE that waits on it is answered ABORTED (R145). -/
def Work.dropPause (w : Work) : Work :=
  let waiting := w.st.tape.pauseWaiting
  (w.modTape fun t => { t with pausePending := false, pauseWaiting := [] }).answerAll waiting .aborted

/-- The word `c` begins, and the encoder computes its check (R162, R163, R219). A word that finds the map full and its
order broken raises one MAP_FULL with reason FULL (log 65). -/
def Work.beginWord (w : Work) (c : OwedCue) : Work :=
  match w.st.tape.pass with
  | none => w
  | some p =>
    let t := w.st.tape
    let map := if p.wrote then t.map else t.map.filter fun e => decide (e.count < t.count)
    let next := if p.wrote then p.next.getD 0 else
      match map.getLast? with | some e => (e.seq + 1) % 16 | none => 0
    let full := decide (Config.cueMapEntries ≤ map.length)
    let order := match map.getLast? with | some e => decide (t.count ≤ e.count) | none => false
    let entry : CueEntry := { count := t.count, seq := next, kind := c.kind, arg := c.arg, frameAfter := c.frameAfter }
    let inMap := !full && !order
    let w := w.modTape fun t =>
      { t with
        map := if inMap then map ++ [entry] else map
        pass := some { wrote := true, next := some ((next + 1) % 16) }
        writing := some
          { cue := c, seq := next, word := encodeWord c.kind.num c.arg next, start := t.count, inMap := inMap
            countsLeft := 4 } }
    if inMap then w else w.event .mapFull (word t.count ++ [byte next, if full then 0 else 1])

/-- An owed cue enters the encoder while RECORDING (R162). -/
def Work.enterCue (w : Work) (c : OwedCue) : Work :=
  if w.st.tape.writing.isNone then w.beginWord c else w.modTape fun t => { t with holding := some c }

/-- An owed cue from the presentation controller (R161). -/
def Work.owedCue (w : Work) (kind : CueKind) (arg : Nat) : Work :=
  if w.st.tape.isRecording then
    w.enterCue { kind := kind, arg := arg, frameAfter := w.st.pres.current, ticket := none }
  else w.event .unrecorded [CueKind.code kind, byte arg]

/-- The holding word, if any, moves to an empty writing word and begins (R162). -/
def Work.moveHolding (w : Work) : Work :=
  match w.st.tape.holding, w.st.tape.writing with
  | some c, none => (w.modTape fun t => { t with holding := none }).beginWord c
  | _, _ => w

/-! ## The transport (R139 to R146, R166) -/

/-- Write the transport state. Leaving a winding state brings the sound to its target at once; entering one takes it
to 0 at once (R166). -/
def Tape.moveTo (t : Tape) (s : Transport) : Tape :=
  let u := { t with transport := s }
  if u.winding then { u with output := 0 } else if t.winding then { u with output := u.target } else u

/-- The motion ends: no watch, and a command waiting for the first tach pulse is answered (R141 to R143). -/
def Work.endMotion (w : Work) (status : Status) : Work :=
  let waiting := w.st.tape.motionWaiting
  (w.modTape fun t => { t with watch := none, motionWaiting := none }).answerOpt waiting status

/-- A motion state is entered by a command (R141, R143). -/
def Work.enterMotion (w : Work) (s : Transport) (ticket : Option Ticket) : Work :=
  (w.endMotion .aborted).modTape fun t =>
    { t.moveTo s with watch := some Config.tachWatchMs, motionWaiting := ticket }

/-- A held cue is discarded, and the expected sequence becomes its sequence plus 1 (R152). -/
def Work.discardHeld (w : Work) : Work :=
  w.modTape fun t =>
    match t.held with
    | some h => { t with held := none, expected := some ((h.seq + 1) % 16) }
    | none => t

def Work.endRunOut (w : Work) : Work := w.modTape fun t => { t with runOut := none }

/-- The transport leaves what it was doing for STOPPED or NO_TAPE: a pending pause, an END run-out, a recording pass and
a held cue end, and then the motion; what they answer and raise joins in this order (R141, R142, R144, log 77). -/
def Work.haltAs (w : Work) (s : Transport) (status : Status) : Work :=
  (((((w.dropPause).endRunOut).endPass).discardHeld).endMotion status).modTape fun t => t.moveTo s

/-- A stop (R144). -/
def Work.stopTape (w : Work) : Work :=
  match w.st.tape.transport with
  | .noTape | .stopped => w
  | _ => w.haltAs .stopped .aborted

/-- The transport pauses (R145). -/
def Work.pauseAs (w : Work) (r : ResumeTarget) : Work :=
  ((w.endRunOut).endMotion .aborted).modTape fun t => t.moveTo (.paused r)

/-- A pause request that is not a command: a HOLD cue, or arrival at a TAPE_HOLD frame (R145). -/
def Work.pauseRequest (w : Work) : Work := if w.st.tape.isPlaying then w.pauseAs .playing else w

/-- The chase (R160). -/
def Work.chase (w : Work) : Work :=
  let w := w.modTape fun t => { t with wound := false }
  if w.st.tape.chase then
    let w := (w.post .flush).modTape fun t => { t with held := none }
    let t := w.st.tape
    match (t.map.filter fun e => decide (e.count ≤ t.count)).getLast? with
    | some e =>
      let w := (w.post (.request .chase (some e.frameAfter))).modTape fun t =>
        { t with expected := some ((e.seq + 1) % 16) }
      w.event .chase (word t.count ++ presentWord (some e.count) ++ [byte e.seq, byte e.frameAfter])
    | none =>
      (w.modTape fun t => { t with expected := none }).event .chase
        (word t.count ++ presentWord none ++ [255, 255])
  else w.modTape fun t => { t with expected := none }

/-- A chase is made on entry to PLAYING in SHOW mode with the wound flag set (R160). -/
def Work.chaseIfWound (w : Work) : Work :=
  if w.st.pres.mode = .show ∧ w.st.tape.wound ∧ w.st.tape.isPlaying then w.chase else w

/-- A PAUSED transport returns to its resume target (R145). -/
def Work.resumeTape (w : Work) (ticket : Option Ticket) : Work :=
  match w.st.tape.transport with
  | .paused .recording =>
    if w.st.pres.mode = .program then (w.enterMotion .recording ticket).moveHolding
    else (w.enterMotion .playing ticket).chaseIfWound
  | .paused .playing => (w.enterMotion .playing ticket).chaseIfWound
  | _ => w

/-- TAPE_PAUSE's refusal (R145). -/
def Tape.pauseRefusal (t : Tape) : Option Status :=
  match t.transport with
  | .playing | .recording | .paused _ => none
  | _ => some .wrongState

/-- TAPE_RESUME's refusal (R145). -/
def Tape.resumeRefusal (t : Tape) : Option Status :=
  if t.held.isSome then some .inUse
  else if t.leader = .tail then some .wrongState
  else match t.transport with
    | .paused _ => none
    | _ => some .wrongState

/-- A pause as TAPE_PAUSE makes it, for a command or for the hand remote (R145). -/
def Work.pauseTape (w : Work) (ticket : Option Ticket) : Work :=
  match w.st.tape.transport with
  | .playing => (w.pauseAs .playing).answerOpt ticket .ok
  | .recording =>
    if w.st.tape.writing.isSome then
      w.modTape fun t => { t with pausePending := true, pauseWaiting := t.pauseWaiting ++ ticket.toList }
    else (w.pauseAs .recording).answerOpt ticket .ok
  | .paused _ => w.answerOpt ticket .ok
  | _ => w

/-! ## Transport commands -/

/-- TAPE_PLAY (R143, log 26). The ABORTED of a motion command that waited joins before the CHASE of a chase (log 93). -/
def cmdTapePlay (t : Ticket) (w : Work) : Work :=
  let x := w.st.tape
  if x.transport = .noTape ∨ x.leader = .tail then w.answer t .wrongState []
  else if x.held.isSome then w.answer t .inUse []
  else if w.st.pres.mode = .program then
    match x.transport with
    | .recording => w.answer t .ok []
    | .paused .recording => w.resumeTape (some t)
    | _ =>
      ((w.endRunOut).enterMotion .recording (some t)).modTape fun x =>
        { x with pass := some { wrote := false, next := none } }
  else
    match x.transport with
    | .playing => (w.endRunOut).answer t .ok []
    | _ => (w.endPass.enterMotion .playing (some t)).chaseIfWound

/-- TAPE_STOP (R144). -/
def cmdTapeStop (t : Ticket) (w : Work) : Work := w.stopTape.answer t .ok []

/-- TAPE_PAUSE (R145). -/
def cmdTapePause (t : Ticket) (w : Work) : Work :=
  match w.st.tape.pauseRefusal with
  | some r => w.answer t r []
  | none => w.pauseTape (some t)

/-- TAPE_RESUME (R145). -/
def cmdTapeResume (t : Ticket) (w : Work) : Work :=
  match w.st.tape.resumeRefusal with
  | some r => w.answer t r []
  | none => w.resumeTape (some t)

/-- The effect of a wind (R146). -/
def Work.windTape (w : Work) (s : Transport) (t : Ticket) : Work :=
  ((((((w.dropPause).endRunOut).endPass).discardHeld).modTape fun x => { x with wound := true })).enterMotion s (some t)

/-- TAPE_WIND (R146). -/
def cmdTapeWind (t : Ticket) (direction : Byte) (w : Work) : Work :=
  let x := w.st.tape
  match direction.toNat with
  | 0 =>
    if x.transport = .noTape ∨ x.leader = .tail then w.answer t .wrongState []
    else if x.transport = .windingFwd then w.answer t .ok []
    else w.windTape .windingFwd t
  | 1 =>
    if x.transport = .noTape ∨ x.leader = .head then w.answer t .wrongState []
    else if x.transport = .windingRev then w.answer t .ok []
    else w.windTape .windingRev t
  | _ => w.answer t .badArgument []

/-- TAPE_ZERO (R147). -/
def cmdTapeZero (t : Ticket) (w : Work) : Work :=
  match w.st.tape.transport, w.st.tape.held with
  | .paused .playing, some _ => w.answer t .inUse []
  | .paused .playing, none => (w.modTape fun x => { x with count := 0, wound := true }).answer t .ok []
  | .noTape, _ => (w.modTape fun x => { x with count := 0, wound := true }).answer t .ok []
  | .stopped, _ => (w.modTape fun x => { x with count := 0, wound := true }).answer t .ok []
  | _, _ => w.answer t .wrongState []

/-- A change of show mode, told once the mode has been written (R148). -/
def Work.modeChanged (w : Work) (old : Mode) : Work :=
  let w := if old = .program then
      match w.st.tape.transport with
      | .recording => ((w.dropPause).endPass).modTape fun t =>
          { t.moveTo .playing with watch := some Config.tachWatchMs }
      | .paused .recording => w.endPass.modTape fun t => { t with transport := .paused .playing }
      | _ => w
    else w
  let w := if old = .show then w.discardHeld else w
  w.chaseIfWound

/-! ## The decoder (R150 to R157) -/

/-- Post a presentation request from source CUE (R154). -/
def Work.postCue (w : Work) (kind : Kind) (arg : Option Nat) : Work := w.post (.request kind arg)

/-- A MARK is stored and raises its event (R156). -/
def Work.storeMark (w : Work) (n count : Nat) : Work :=
  (w.modTape fun t => { t with mark := some { n := n, count := count } }).event .mark (byte n :: word count)

/-- A HOLD, MUTE or UNMUTE cue acts only while CUE holds TAPE (R179). -/
def Work.ifTape (w : Work) (tapeAuth : Bool) (f : Work → Work) : Work :=
  if tapeAuth then f w else w.modTape fun t => { t with undelivered := sat255 t.undelivered }

/-- A taken cue in SHOW mode, read at `count` (R154 to R157), but for the run-out of END. -/
def Work.routeCue (w : Work) (tapeAuth : Bool) (kind : CueKind) (arg count : Nat) : Work :=
  let w := w.modTape fun t => { t with taken := sat255 t.taken }
  match kind with
  | .advance => w.postCue .advance none
  | .reverse => w.postCue .reverse none
  | .goto => w.postCue .goto (some arg)
  | .cut => w.postCue .cut none
  | .dissolve => w.postCue .dissolve (some arg)
  | .level => w.postCue .level (some arg)
  | .hold => w.ifTape tapeAuth Work.pauseRequest
  | .mute => w.ifTape tapeAuth fun w => w.modTape fun t => { t with mute := true }
  | .unmute => w.ifTape tapeAuth fun w => w.modTape fun t => { t with mute := false }
  | .mark => w.storeMark arg count
  | .fin => w.postCue .dark (some 1)

/-- The END run-out begins (R157, R166). -/
def Work.startRunOut (w : Work) : Work :=
  w.modTape fun t => { t with runOut := some { left := Config.endRunOutMs, falls := t.output } }

/-- A cue is taken (R150, R157). -/
def Work.takeCue (w : Work) (tapeAuth : Bool) (kind : CueKind) (arg : Nat) : Work :=
  let count := w.st.tape.count
  if w.st.pres.mode = .show then
    let w := w.routeCue tapeAuth kind arg count
    match kind with
    | .fin => w.startRunOut
    | _ => w
  else
    let w := w.modTape fun t => { t with taken := sat255 t.taken }
    match kind with
    | .mark => w.storeMark arg count
    | _ => w

/-- The sequence check (R151). -/
inductive SeqCheck where
  | inStep | duplicate
  | gap (n : Nat)
  deriving DecidableEq, Repr

def seqCheck (expected : Option Nat) (s : Nat) : SeqCheck :=
  match expected with
  | none => .inStep
  | some e => if s = e then .inStep else if s = (e + 15) % 16 then .duplicate else .gap ((s + 16 - e) % 16)

/-- Cues missed in a gap are counted (R150). -/
def addMissed (n gap : Nat) : Nat := min 255 (n + gap)

/-- A gap is counted, and in SHOW mode raises CUE_GAP (R150, R151). -/
def Work.noteGap (w : Work) (gap s : Nat) : Work :=
  let w := w.modTape fun t => { t with missed := addMissed t.missed gap }
  if w.st.pres.mode = .show then w.event .cueGap ([byte gap, byte s] ++ word w.st.tape.count) else w

/-- A good word (R150 to R152). After a gap under FOLLOW the CUE_GAP event comes before what taking the cue raises
(log 79). -/
def Work.goodWord (w : Work) (tapeAuth : Bool) (kind : Option CueKind) (arg s : Nat) : Work :=
  let advance (w : Work) : Work := w.modTape fun t => { t with expected := some ((s + 1) % 16) }
  match seqCheck w.st.tape.expected s, kind with
  | .duplicate, _ => w.modTape fun t => { t with duplicates := sat255 t.duplicates }
  | .inStep, none => advance w
  | .gap n, none => (advance w).noteGap n s
  | .inStep, some k => (advance w).takeCue tapeAuth k arg
  | .gap n, some k =>
    if w.st.pres.mode = .show ∧ w.st.tape.policy = .stop then
      let w := (w.noteGap n s).modTape fun t =>
        { t with held := some { kind := k, arg := arg, seq := s, count := t.count } }
      w.pauseAs .playing
    else ((advance w).noteGap n s).takeCue tapeAuth k arg

/-- CUE_WORD_DELIVERED (R150). -/
def Work.cueWord (w : Work) (tapeAuth : Bool) (x : BitVec 24) : Work :=
  if w.st.tape.isPlaying ∧ w.st.tape.runOut.isNone then
    if wordCheck x = cueCheck (wordKind x) (wordArg x) then
      w.goodWord tapeAuth (cueKindOf (wordKind x)) (wordArg x) (wordSeq x)
    else (w.modTape fun t => { t with bad := sat255 t.bad }).event .cueBad (word w.st.tape.count)
  else w

/-- CUE_TAKE_HELD (R153). The OK of a routed END joins before the CUE_OVERFLOW that a full CUE queue makes of it
(log 92). -/
def cmdCueTakeHeld (tapeAuth : Bool) (t : Ticket) (w : Work) : Work :=
  match w.st.tape.held with
  | none => w.answer t .wrongState []
  | some h =>
    if w.st.tape.leader = .tail then w.answer t .wrongState []
    else
      let w := (w.discardHeld).routeCue tapeAuth h.kind h.arg h.count
      match h.kind, tapeAuth with
      | .hold, true => w.answer t .ok []
      | .fin, _ => w.stopTape.answer t .ok []
      | _, _ => w.enterMotion .playing (some t)

/-- CUE_DISCARD_HELD (R153). -/
def cmdCueDiscardHeld (t : Ticket) (w : Work) : Work :=
  match w.st.tape.held with
  | none => w.answer t .wrongState []
  | some _ =>
    if w.st.tape.leader = .tail then w.answer t .wrongState []
    else ((w.discardHeld).enterMotion .playing (some t)).chaseIfWound

/-- A CUE request has ended (R154). -/
def Work.cueEnded (w : Work) (kind : Kind) (status : Status) : Work :=
  w.modTape fun t =>
    { t with
      lastCue := some { kind := kind, status := status }
      undelivered := if status = .ok then t.undelivered else sat255 t.undelivered }

/-- A CUE request is refused, or lost to a full queue (R154). -/
def Work.cueLost (w : Work) : Work := w.modTape fun t => { t with undelivered := sat255 t.undelivered }

/-! ## The transport's events -/

/-- TAPE_TACH_PULSE (R140, R141, R143, R162). -/
def Work.tachPulse (w : Work) : Work :=
  if w.st.tape.inMotion then
    let waiting := w.st.tape.motionWaiting
    (w.modTape fun t =>
      { t with
        count := match t.transport with | .windingRev => t.count - 1 | _ => min 65535 (t.count + 1)
        watch := some Config.tachWatchMs
        motionWaiting := none
        writing := if t.isRecording then t.writing.map fun x => { x with countsLeft := x.countsLeft - 1 }
          else t.writing }).answerOpt waiting .ok
  else w

/-- TACH_WATCH_EXPIRY (R141); a CUE_CUT of the pass that ends, and the answers of the commands that
wait, come before TRANSPORT_FAULT (log 66, 77). -/
def Work.tachExpiry (w : Work) : Work :=
  if w.st.tape.inMotion then
    let fields := Transport.code w.st.tape.transport :: word w.st.tape.count
    (w.haltAs .stopped .fault).event .transportFault fields
  else w

/-- LEADER_SENSOR_MAKES (R142); a CUE_CUT of the pass that ends, and the answers of the commands that
wait, come before TAPE_END (log 66, 77). -/
def Work.leaderMakes (w : Work) : Work :=
  let w := w.modTape fun t => { t with leaderMade := true }
  if w.st.tape.inMotion then
    let l : Leader := match w.st.tape.transport with | .windingRev => .head | _ => .tail
    let fields := Leader.code l :: word w.st.tape.count
    ((w.haltAs .stopped .aborted).modTape fun t => { t with leader := l }).event .tapeEnd fields
  else w

/-- LEADER_SENSOR_CLEARS (R142). -/
def Work.leaderClears (w : Work) : Work := w.modTape fun t => { t with leaderMade := false, leader := .none }

/-- TAPE_REMOVAL (R142). -/
def Work.tapeRemoval (w : Work) : Work :=
  if w.st.tape.present then
    (w.haltAs .noTape .aborted).modTape fun t => { t with present := false, wound := true }
  else w

/-- TAPE_INSERTION (R142). -/
def Work.tapeInsertion (w : Work) : Work :=
  let w := w.modTape fun t => { t with present := true }
  match w.st.tape.transport with
  | .noTape => w.modTape fun t =>
      { t with
        transport := .stopped, wound := true, expected := none, taken := 0, duplicates := 0, missed := 0, bad := 0
        undelivered := 0, mark := none, leader := if t.leaderMade then .head else .none }
  | _ => w

/-- END_RUN_OUT_EXPIRY (R157, R166): a stop, after which the output becomes its target at once. -/
def Work.runOutExpiry (w : Work) : Work :=
  if w.st.tape.runOut.isSome then w.stopTape.modTape fun t => { t with output := t.target } else w

/-- WORD_WRITING_END is due (R162). -/
def Tape.wordEndDue (t : Tape) : Bool :=
  t.isRecording && (match t.writing with | some x => x.countsLeft == 0 | none => false)

/-- WORD_WRITING_END (R145, R162, R165). The CUE_INSERT of the word is answered before the TAPE_PAUSE that waited for it
(log 78), and before the MAP_FULL of the holding word that begins (log 81). -/
def Work.wordEnd (w : Work) : Work :=
  if w.st.tape.wordEndDue then
    match w.st.tape.writing with
    | none => w
    | some x =>
      let w := w.modTape fun t => { t with writing := none }
      let w := match x.cue.ticket with
        | some t => w.answer t .ok (word x.start ++ [byte x.seq, Bool.code (!x.inMap)])
        | none => w
      if w.st.tape.pausePending then
        let waiting := w.st.tape.pauseWaiting
        ((w.pauseAs .recording).modTape fun t => { t with pausePending := false, pauseWaiting := [] }).answerAll
          waiting .ok
      else w.moveHolding
  else w

/-- SOUND_FADE_STEP (R166). -/
def Work.soundStep (w : Work) : Work :=
  if w.st.tape.runOut.isSome then w
  else w.modTape fun t =>
    { t with output := if t.output < t.target then t.output + 1 else if t.target < t.output then t.output - 1 else t.output }

/-- END_FADE_STEP (R166). -/
def Work.endFadeStep (w : Work) : Work :=
  match w.st.tape.runOut with
  | some r =>
    if r.falls = 0 then w
    else w.modTape fun t => { t with output := t.output - 1, runOut := some { r with falls := r.falls - 1 } }
  | none => w

/-! ## Cue map, options, sound and status commands -/

/-- SET_CUE_OPTIONS (R168). -/
def cmdSetCueOptions (t : Ticket) (policy chase : Byte) (w : Work) : Work :=
  match cuePolicyOf policy, onOff chase with
  | some p, some c => (w.modTape fun x => { x with policy := p, chase := c }).answer t .ok []
  | _, _ => w.answer t .badArgument []

/-- The kinds CUE_INSERT takes, with the argument the word carries (R165). -/
def insertable (kind arg : Nat) : Option (CueKind × Nat) :=
  match cueKindOf kind with
  | some .cut => some (.cut, 0)
  | some .dissolve => if arg ≤ 7 then some (.dissolve, arg) else none
  | some .level => if 10 ≤ arg ∧ arg ≤ 100 then some (.level, arg) else none
  | some .hold => some (.hold, 0)
  | some .mute => some (.mute, 0)
  | some .unmute => some (.unmute, 0)
  | some .mark => some (.mark, arg)
  | _ => none

/-- A presentation request granted from CPORT, LINK or REMOTE is in progress (R165). -/
def Pres.steered (p : Pres) : Bool :=
  match p.granted with
  | some r => r.source != .cue
  | none => false

/-- CUE_INSERT (R165). -/
def cmdCueInsert (t : Ticket) (kind arg : Byte) (w : Work) : Work :=
  match insertable kind.toNat arg.toNat with
  | none => w.answer t .badArgument []
  | some (k, a) =>
    if w.st.pres.mode ≠ .program then w.answer t .wrongMode []
    else if !w.st.tape.isRecording then w.answer t .wrongState []
    else if w.st.tape.holding.isSome || w.st.pres.steered then w.answer t .inUse []
    else w.enterCue { kind := k, arg := a, frameAfter := w.st.pres.current, ticket := some t }

/-- ABORT of a CUE_INSERT whose word is the holding word (R165). -/
def Work.abortInsert (w : Work) (id : Nat) : Work :=
  match w.st.tape.holding with
  | some c =>
    match c.ticket with
    | some t => if t.id = id then (w.modTape fun x => { x with holding := none }).answer t .aborted [] else w
    | none => w
  | none => w

/-- CUE_MAP_READ (R159). -/
def cmdCueMapRead (t : Ticket) (first n : Nat) (w : Work) : Work :=
  let map := w.st.tape.map
  if 8 < n then w.answer t .badArgument []
  else if n = 0 then w.answer t .ok (word map.length)
  else if first = 0 ∨ map.length < first then w.answer t .badArgument []
  else
    let es := (map.drop (first - 1)).take n
    w.answer t .ok (word map.length ++ byte es.length :: es.flatMap CueEntry.bytes)

/-- CUE_MAP_LOAD (R159). -/
def cmdCueMapLoad (t : Ticket) (count seq kind arg frameAfter : Nat) (w : Work) : Work :=
  let map := w.st.tape.map
  let rising := match map.getLast? with | some e => decide (e.count < count) | none => true
  if w.st.tape.pass.isSome then w.answer t .inUse []
  else match cueKindOf kind with
    | none => w.answer t .badArgument []
    | some k =>
      if 15 < seq ∨ 200 < frameAfter ∨ !rising then w.answer t .badArgument []
      else if Config.cueMapEntries ≤ map.length then w.answer t .wrongState []
      else
        let entry : CueEntry := { count := count, seq := seq, kind := k, arg := arg, frameAfter := frameAfter }
        (w.modTape fun x => { x with map := map ++ [entry] }).answer t .ok (word (map.length + 1))

/-- CUE_MAP_CLEAR (R159). -/
def cmdCueMapClear (t : Ticket) (w : Work) : Work :=
  if w.st.tape.pass.isSome then w.answer t .inUse [] else (w.modTape fun x => { x with map := [] }).answer t .ok []

/-- SOUND_LEVEL (R167). -/
def cmdSoundLevel (t : Ticket) (level : Byte) (w : Work) : Work :=
  if level.toNat ≤ 31 then (w.modTape fun x => { x with setLevel := level.toNat }).answer t .ok []
  else w.answer t .badArgument []

/-- SOUND_MUTE (R167). -/
def cmdSoundMute (t : Ticket) (on : Byte) (w : Work) : Work :=
  match onOff on with
  | some b => (w.modTape fun x => { x with mute := b }).answer t .ok []
  | none => w.answer t .badArgument []

/-- TAPE_STATUS's fields in the order of R169. -/
def tapeStatusFields (t : Tape) : List Byte :=
  [Transport.code t.transport, resumeCode t.transport, Bool.code t.pausePending] ++
  optWord (t.runOut.map fun r => r.left) ++ word t.count ++
  [Leader.code t.leader, Bool.code t.wound, Bool.code t.pass.isSome,
    Bool.code (match t.pass with | some p => p.wrote | none => false),
    Bool.code t.present, expectedCode t.expected, CuePolicy.code t.policy, Bool.code t.chase] ++
  [optByte (t.held.map fun h => h.kind.num)] ++ presentByte (t.held.map fun h => h.arg) ++
  [optByte (t.held.map fun h => h.seq)] ++ presentWord (t.held.map fun h => h.count) ++
  presentByte (t.mark.map fun m => m.n) ++ presentWord (t.mark.map fun m => m.count) ++
  [match t.lastCue with | some r => Kind.code r.kind | none => 255,
    match t.lastCue with | some r => Status.code r.status | none => 255,
    byte t.taken, byte t.duplicates, byte t.missed, byte t.bad, byte t.undelivered,
    optByte (t.writing.map fun x => x.cue.kind.num), optByte (t.writing.map fun x => x.seq)] ++
  presentWord (t.writing.map fun x => x.start) ++
  [optByte (t.holding.map fun c => c.kind.num), optByte (t.pass.bind fun p => p.next)] ++ word t.map.length ++
  [byte t.setLevel, Bool.code t.mute, byte t.output, byte t.target]

/-- TAPE_STATUS (R169). -/
def cmdTapeStatus (t : Ticket) (w : Work) : Work := w.answer t .ok (tapeStatusFields w.st.tape)

/-! ## Part reset and the passing of time -/

/-- A part reset (R164, R170). -/
def Tape.partReset (t : Tape) : Tape :=
  let map := match t.writing with
    | some x => if x.inMap then t.map.dropLast else t.map
    | none => t.map
  let u := { t with
    transport := match t.transport with | .noTape => .noTape | _ => .stopped
    pausePending := false, pauseWaiting := [], runOut := none, pass := none, watch := none, motionWaiting := none
    expected := none, held := none, writing := none, holding := none, map := map }
  { u with output := u.target }

/-- One millisecond (log 3). -/
def Tape.tick (t : Tape) : Tape :=
  { t with watch := tickOpt t.watch, runOut := t.runOut.map fun r => { r with left := r.left - 1 } }

end Sys2Proof.Machine
end

