-- ==== Sys2Proof/Machine/Selection.lean ====
section
/-! DEFINITION. What the presentation controller works out before it acts: successor walks (R79, R80), serving decks
(R76, R81, R82), dissolve classes (R7), effective levels (R87) and the census compare (R73). -/

namespace Sys2Proof.Machine

/-! ## Successor walks (R79, R80) -/

/-- The SKIP flag of a frame. -/
def Pres.skips (p : Pres) (n : Nat) : Bool :=
  match p.frame? n with
  | some f => f.skip
  | none => false

/-- The frame after `g` on an ADVANCE walk (R79). -/
def Pres.after (p : Pres) (g : Nat) : Nat := if p.loopOn ∧ g = p.loopEnd then p.loopStart else g + 1

/-- The frame after `g` on a REVERSE walk (R80); 0 when it would be below 1. -/
def Pres.before (p : Pres) (g : Nat) : Nat := if p.loopOn ∧ g = p.loopStart then p.loopEnd else g - 1

/-- The walk from `f`, standing at `g`, with the frames visited so far (R79). `fuel` bounds the frames visited. -/
def Pres.walk (p : Pres) (next : Nat → Nat) (f : Nat) : Nat → Nat → List Nat → Nat
  | 0, _, _ => 0
  | fuel + 1, g, visited =>
    let n := next g
    if n = 0 ∨ p.count < n then 0
    else if visited.contains n then (if n = f ∧ !p.skips n then n else 0)
    else if p.skips n then p.walk next f fuel n (n :: visited)
    else n

/-- The result of the ADVANCE walk from frame `f` (R79). -/
def Pres.advanceFrom (p : Pres) (f : Nat) : Nat := p.walk p.after f (p.count + 2) f [f]

/-- The result of the REVERSE walk from frame `f` (R80). -/
def Pres.reverseFrom (p : Pres) (f : Nat) : Nat := p.walk p.before f (p.count + 2) f [f]

/-! ## Serving decks (R76, R81, R82) -/

/-- The decks allowed to serve a frame (R76). -/
def Pres.allowed (p : Pres) (f : Frame) : List DeckId :=
  match p.pairing with
  | .single => [.a]
  | .alternate => [f.deck]
  | .mirror => [.a, .b]

/-- A deck is a candidate for slot `s` but for the excluded decks (R81): not for a slot that has been marked, a READY
preload standing LOADED there or not (R70, log 89). -/
def Blocks.candidate (b : Blocks) (d : DeckId) (s : Nat) : Bool :=
  let x := b.deck d
  x.inService &&
    (match x.state with
     | .idle _ => true
     | .busy op => op.kind == .change && !op.resetting
     | _ => false) &&
    x.position.isSome && (b.lamp d).servable &&
    (match x.slot? s with
     | some r => r.presence != .empty && decide (r.faults < 4)
     | none => false)

/-- The rotation distance of a deck to slot `s` (R30). -/
def Deck.distance (x : Deck) (s : Nat) : Nat :=
  match x.position, x.size with
  | some p, some size => rotationDistance p s size
  | _, _ => 0

/-- Serving-deck selection for a frame (R81). -/
def Blocks.select (b : Blocks) (excluded : DeckId → Option Reason) (f : Frame) : Option DeckId :=
  let ok (d : DeckId) : Bool := (b.pres.allowed f).contains d && (excluded d).isNone && b.candidate d f.slot
  match ok .a, ok .b with
  | true, true =>
    match b.pres.screen with
    | some sc => some sc.deck.other
    | none => if (b.deckA).distance f.slot ≤ (b.deckB).distance f.slot then some .a else some .b
  | true, false => some .a
  | false, true => some .b
  | false, false => none

/-- No deck is excluded. -/
def noneExcluded (_ : DeckId) : Option Reason := none

/-- Why a deck does not serve slot `s` (R82). A lamp that R136 keeps from serving until it has been lit reads as NOLAMP
(log 67). -/
def Blocks.darkReason (b : Blocks) (excluded : DeckId → Option Reason) (d : DeckId) (s : Nat) : Reason :=
  match excluded d with
  | some r => r
  | none =>
    let x := b.deck d
    match x.map with
    | none => if (b.lamp d).servable then .nodeck else .nolamp
    | some _ => match x.slot? s with
      | none => .empty
      | some r =>
        if r.presence ≠ .empty ∧ 4 ≤ r.faults then .bad
        else if r.presence = .empty then .empty
        else if (b.lamp d).servable then .nodeck
        else .nolamp

def Reason.service : Reason → Service
  | .empty => .darkEmpty
  | .bad => .darkBad
  | .nodeck => .darkNodeck
  | .nolamp => .darkNolamp

/-- The first of BAD, EMPTY, NOLAMP and NODECK in a list of reasons (R82). -/
def firstReason (rs : List Reason) : Reason :=
  if rs.contains .bad then .bad
  else if rs.contains .empty then .empty
  else if rs.contains .nolamp then .nolamp
  else .nodeck

/-- The service state of a frame for which selection finds no candidate (R82). -/
def Blocks.darkService (b : Blocks) (excluded : DeckId → Option Reason) (f : Frame) : Service :=
  (firstReason ((b.pres.allowed f).map fun d => b.darkReason excluded d f.slot)).service

/-! ## Classes and levels (R7, R87) -/

/-- The class time in ms (R7). -/
def classMs : Nat → Nat
  | 0 => 0
  | 1 => 500
  | 2 => 1000
  | 3 => 2000
  | 4 => 3000
  | 5 => 5000
  | 6 => 8000
  | _ => 13000

/-- The class of a transition towards frame `t` (R7); a fade to EMPTY has no frame to take one from (log 10). -/
def Pres.classFor (p : Pres) (t : Nat) : Nat :=
  if p.cut then 0
  else match p.frame? t with
    | some f => match f.cls with
      | .num n => n
      | .default => p.defaultClass
    | none => (Config.emptyFadeClass p.current p.defaultClass).val

/-- The level commanded for frame `t` (R87). -/
def Pres.effective (p : Pres) (t : Nat) : Nat :=
  if p.blackout then 0
  else match p.frame? t with
    | some f =>
      let level := f.level * p.master / 100
      if t = p.current ∧ p.hold = .expired then min level 40 else level
    | none => 0

/-! ## The census compare (R72, R73) -/

/-- A deck's reading of slot `s` is PRESENT (R73). -/
def Deck.readsPresent (x : Deck) (s : Nat) : Bool :=
  match x.slot? s with
  | some r => r.presence == .present
  | none => false

/-- The slots 1..99 on which exactly one deck reads PRESENT, in ascending order (R73). -/
def mismatches (a b : Deck) : List Nat :=
  ((List.range 100).drop 1).filter fun s => a.readsPresent s != b.readsPresent s

/-- The list a compare builds (R73). -/
def compareMaps (a b : Deck) : Compare :=
  let all := mismatches a b
  { passA := a.pass, passB := b.pass, total := all.length, overflow := decide (Config.mismatchSlots < all.length)
    slots := all.take Config.mismatchSlots }

/-- A compare is made when the pairing is MIRROR and both decks have completed a census (R72, R73). -/
def Work.compareIfDue (w : Work) : Work :=
  let p := w.st.pres
  if p.pairing = .mirror ∧ p.censusA ∧ p.censusB then
    let c := compareMaps w.st.deckA w.st.deckB
    let w := w.modPres fun p => { p with mismatch := some c }
    if 0 < c.total then
      w.event .censusMismatch [byte c.total, Bool.code c.overflow, byte c.passA, byte c.passB]
    else w
  else w

end Sys2Proof.Machine
end

