-- ==== Sys2Proof/Machine/Presentation.lean ====
section
/-! DEFINITION. The presentation controller (04_presentation.md): orders, transitions, arrivals, the preload, lost decks
and lamps, ABORT, FROZEN and COOLDOWN, and the effects of edits on the show (01_show_records.md R16 to R18, R23). -/

namespace Sys2Proof.Machine

/-! ## Writing the presentation controller's records -/

def Pres.setStop (p : Pres) (d : DeckId) (b : Bool) : Pres :=
  match d with
  | .a => { p with stopA := b }
  | .b => { p with stopB := b }

def Pres.setOrder (p : Pres) (d : DeckId) (s : Option Nat) : Pres :=
  match d with
  | .a => { p with orderA := s }
  | .b => { p with orderB := s }

def Pres.setCensus (p : Pres) (d : DeckId) (b : Bool) : Pres :=
  match d with
  | .a => { p with censusA := b }
  | .b => { p with censusB := b }

def Transition.exclude (t : Transition) (d : DeckId) (r : Reason) : Transition :=
  match d with
  | .a => { t with excludedA := some r }
  | .b => { t with excludedB := some r }

def Work.modTrans (w : Work) (f : Transition → Transition) : Work :=
  w.modPres fun p => { p with transition := p.transition.map f }

def Work.setStand (w : Work) (s : Stand) : Work := w.modTrans fun t => { t with stand := s }

/-- The slot of a frame; a frame outside the table has none. -/
def Pres.slotOf (p : Pres) (n : Nat) : Nat :=
  match p.frame? n with
  | some f => f.slot
  | none => 0

/-- A frame as selection reads it. -/
def Pres.frameOf (p : Pres) (n : Nat) : Frame := (p.frame? n).getD blankFrame

/-! ## Orders to the decks (R84, R92) -/

/-- Order slot `s` on deck `d`: a CHANGE, a retarget, or the taking over of the running CHANGE; held while a STOP is
outstanding (R84). -/
def Work.orderOn (w : Work) (d : DeckId) (s : Nat) : Work :=
  if w.st.pres.stopped d then w.modPres fun p => p.setOrder d (some s) else w.retarget d s

/-- Send a STOP to a deck BUSY in a CHANGE (R38, R84). -/
def Work.sendStop (w : Work) (d : DeckId) : Work :=
  let w := w.modPres fun p => p.setOrder d none
  if (w.deck d).changing && !w.st.pres.stopped d then
    (w.stopChange d).modPres fun p => p.setStop d true
  else w

/-- The preload is dropped (R11, R93). -/
def Work.dropPreload (w : Work) : Work := w.modPres fun p => { p with preload := none, preloadHeld := false }

/-- The preload is dropped if deck `d` holds it. -/
def Work.dropPreloadOn (w : Work) (d : DeckId) : Work :=
  match w.st.pres.preload with
  | some r => if r.deck = d then w.dropPreload else w
  | none => w

/-- The preload is dropped if it is READY on deck `d` (R47). -/
def Work.dropReadyOn (w : Work) (d : DeckId) : Work :=
  match w.st.pres.preload with
  | some r => if r.deck = d ∧ r.state = .ready then w.dropPreload else w
  | none => w

/-- Prepare frame `n` on deck `e`, held while a STOP to it is outstanding (R92). -/
def Work.preloadOn (w : Work) (n : Nat) (e : DeckId) : Work :=
  let held := w.st.pres.stopped e
  let w := w.modPres fun p =>
    { p with preload := some { frame := n, deck := e, state := .inFlight }, preloadHeld := held }
  if held then w else w.retarget e (w.st.pres.slotOf n)

/-- Where the successor of the current frame would be prepared (R92). -/
def Blocks.preloadPlan (b : Blocks) : Option (Nat × DeckId) :=
  let p := b.pres
  let n := p.advanceFrom p.current
  if p.pairing = .single ∨ p.state ≠ .showing ∨ n = 0 ∨ n = p.current then none
  else match b.select noneExcluded (p.frameOf n) with
    | some e => match p.screen with
      | some sc => if sc.deck = e then none else some (n, e)
      | none => some (n, e)
    | none => none

/-- PRELOAD_COMPUTE (R92). -/
def Work.computePreload (w : Work) : Work :=
  match w.st.preloadPlan with
  | some (n, e) => w.preloadOn n e
  | none => w

/-! ## Ends of requests (R78) -/

/-- The cue a request owes in PROGRAM mode (R78). -/
def owedBy (r : Request) (turnedOn : Bool) : Option (CueKind × Nat) :=
  match r.kind with
  | .advance => some (.advance, 0)
  | .reverse => some (.reverse, 0)
  | .goto => some (.goto, r.arg.getD 0)
  | .dark => if turnedOn then some (.fin, 0) else none
  | _ => none

/-- The key a REMOTE request came from (R189). -/
def keyOfKind : Kind → Key
  | .advance => .advance
  | .reverse => .reverse
  | .dark => .dark
  | _ => .go

/-- A LINK request leaves the outstanding ones with a status (R198). -/
def Work.linkEnded (w : Work) (r : Request) (status : Status) : Work :=
  let w := w.modLink fun l =>
    { l with outstanding := l.outstanding - 1, requestResult := some { kind := r.kind, status := status } }
  if status = .ok then w
  else w.event .linkRefused
    ([byte w.st.link.station, Kind.code r.kind] ++ presentByte r.arg ++ [Status.code status])

/-- A REMOTE key that was refused, dropped or ended badly (R189). -/
def Work.remoteRefused (w : Work) (k : Key) (reason : Byte) : Work := w.event .remoteRefused [Key.code k, reason]

/-- The result fields of a motion or DARK command (R78, R103). -/
def Pres.resultFields (p : Pres) (kind : Kind) : List Byte :=
  [byte p.current, Service.code p.service] ++
    match kind with
    | .dark => [Bool.code p.blackout]
    | _ => []

/-- Answer the source of a request that has ended (R78). -/
def Work.answerSource (w : Work) (r : Request) (status : Status) : Work :=
  match r.source with
  | .cport => match r.ticket with
    | some t => w.answer t status (w.st.pres.resultFields r.kind)
    | none => w
  | .link => w.linkEnded r status
  | .remote => if status = .ok then w else w.remoteRefused (keyOfKind r.kind) (Status.code status)
  | .cue => w.cueEnded r.kind status

/-- The granted request ends: its source is answered, and in PROGRAM mode a cue may be owed (R78). -/
def Work.endRequest (w : Work) (status : Status) : Work :=
  match w.st.pres.granted with
  | none => w
  | some r =>
    let on := w.st.pres.turnedOn
    let w := (w.answerSource r status).modPres fun p =>
      { p with granted := none, levelWait := none, turnedOn := false }
    if status = .ok ∧ w.st.pres.mode = .program ∧ r.source ≠ .cue then
      match owedBy r on with
      | some (k, a) => w.owedCue k a
      | none => w
    else w

/-! ## Edits taking effect (R16 to R18, R22, R23) -/

/-- The new level of the current frame, if it may be commanded now (R16). -/
def Work.editLevel (w : Work) : Work :=
  let p := w.st.pres
  match p.showingOn, p.granted with
  | some d, none => w.requestRamp d (p.effective p.current) 500
  | _, _ => w

/-- The new hold limit of the current frame (R16). -/
def Work.editHold (w : Work) : Work :=
  let p := w.st.pres
  if p.state = .showing then
    let limit := (p.frameOf p.current).hold
    w.modPres fun p =>
      { p with hold := if limit = 0 then .absent else
          match p.hold with
          | .expired => .expired
          | _ => .running (limit * 1000) }
  else w

/-- The preload is derived again after an edit that leaves the old table's slot of its frame at `oldSlot` (R17). -/
def Work.rederive (w : Work) (oldSlot : Nat) : Work :=
  let p := w.st.pres
  match p.preload with
  | none => w
  | some r =>
    let n := p.advanceFrom p.current
    if n = 0 ∨ n = p.current then w.dropPreload
    else
      let sel := w.st.select noneExcluded (p.frameOf n)
      if sel = some r.deck then
        if n = r.frame ∧ oldSlot = p.slotOf n then w else w.preloadOn n r.deck
      else w.dropPreload.computePreload

/-- The loop window against the count (R18). -/
def Work.checkLoop (w : Work) : Work :=
  let p := w.st.pres
  if p.loopOn ∧ p.count < p.loopEnd then (w.modPres fun p => { p with loopOn := false }).event .loopOff [] else w

/-- The slot of the preload's frame as the table stands (R17). -/
def Pres.preloadSlot (p : Pres) : Nat :=
  match p.preload with
  | some r => p.slotOf r.frame
  | none => 0

/-- A new frame table takes effect: on the current frame's level and hold limit where the edit touched them, on the
loop window and on the preload (R16 to R18), an edit that writes the values that stood included (log 82). -/
def Work.applyFrames (w : Work) (frames : List Frame) (level hold : Bool) : Work :=
  let oldSlot := w.st.pres.preloadSlot
  let w := w.modPres fun p => { p with frames := frames }
  let w := if level then w.editLevel else w
  let w := if hold then w.editHold else w
  w.checkLoop.rederive oldSlot

/-- The table with a run written at `t` (R22). -/
def writeRun (frames run : List Frame) (t : Nat) : List Frame :=
  frames.take (t - 1) ++ run ++ frames.drop (t - 1 + run.length)

/-- A commit of the run at `t` is applied (R22). -/
def Work.applyCommit (w : Work) (run : List Frame) (t : Nat) : Work :=
  let c := w.st.pres.current
  let touches := decide (t ≤ c ∧ c < t + run.length)
  w.applyFrames (writeRun w.st.pres.frames run t) touches touches

/-- DEFERRED_COMMIT_APPLY (R23). -/
def Work.applyDeferred (w : Work) : Work :=
  match w.st.pres.edit with
  | .deferred f run t ticket =>
    let w := (w.modPres fun p => { p with edit := .opened f run }).applyCommit run t
    w.answer ticket .ok [byte w.st.pres.count]
  | _ => w

/-! ## Arrivals (R82, R83, R88) -/

/-- Steps 3 to 7 of an arrival at frame `t` (R88). -/
def Work.afterArrival (w : Work) (t : Nat) : Work :=
  let p := w.st.pres
  let w := if p.mode = .show ∧ (p.frameOf t).tapeHold then w.pauseRequest else w
  (w.endRequest .ok).applyDeferred.computePreload

/-- ARRIVAL at frame `t` on deck `d` (R88). -/
def Work.arrive (w : Work) (t : Nat) (d : DeckId) (twin : Bool) : Work :=
  let w := w.modPres fun p =>
    let f := p.frameOf t
    { p with
      current := t, transition := none, screen := some { deck := d, slot := f.slot }
      service := if twin then .twin else .normal
      hold := if f.hold = 0 then .absent else .running (f.hold * 1000) }
  (w.setPriority d).afterArrival t

/-- FRAME_DARK (R82, R94, R95, R97). -/
def Work.frameDark (w : Work) : Work :=
  w.event .frameDark [byte w.st.pres.current, Service.code w.st.pres.service]

/-- A dark arrival at frame `t` (R82). -/
def Work.arriveDark (w : Work) (t : Nat) (s : Service) : Work :=
  let w := w.modPres fun p =>
    { p with current := t, transition := none, screen := none, service := s, hold := .absent }
  w.frameDark.afterArrival t

/-- An arrival in EMPTY (R83). -/
def Work.arriveEmpty (w : Work) : Work :=
  let w := w.modPres fun p =>
    { p with current := 0, transition := none, screen := none, service := .normal, hold := .absent }
  (w.endRequest .ok).applyDeferred

/-! ## Transitions (R83 to R86, R122) -/

/-- The class time of the transition in progress. -/
def Transition.ms (t : Transition) : Nat := classMs t.cls

/-- The ramps of a crossing, over the full class time (R85, R122). -/
def Work.crossRamps (w : Work) (t : Transition) (c : Crossing) : Work :=
  let w := match c.outgoing with
    | some o => w.requestRamp o 0 t.ms
    | none => w
  let w := match c.incoming with
    | some i => w.requestRamp i (w.st.pres.effective t.target) t.ms
    | none => w
  w.setStand (.crossing { c with awaitOut := c.outgoing.isSome, awaitIn := c.incoming.isSome, held := false })

/-- The crossing is held while its incoming lamp is not lit (R122). -/
def Work.holdCrossing (w : Work) (c : Crossing) : Work :=
  let w := match c.incoming with
    | some i => w.requestRamp i 0 0
    | none => w
  let w := match c.outgoing with
    | some o => w.requestRamp o (w.st.pres.effective w.st.pres.current) 500
    | none => w
  w.setStand (.crossing { c with awaitOut := false, awaitIn := false, held := true })

/-- CROSSING begins onto deck `d`, or in place (R83, R85); it is held at once when the incoming lamp is on its way
(R122), under blackout too (log 91). -/
def Work.beginCrossing (w : Work) (d : DeckId) : Work :=
  match w.st.pres.transition with
  | none => w
  | some t =>
    let outgoing := match w.st.pres.screen with
      | some sc => if sc.deck = d then none else some sc.deck
      | none => none
    let c : Crossing :=
      { outgoing := outgoing, incoming := some d, awaitOut := true, awaitIn := true, dark := none, held := false }
    let w := (w.modTrans fun t => { t with serving := some d, past := true }).setPriority (outgoing.getD d)
    let w := w.crossRamps t c
    if (w.lamp d).onItsWay then w.holdCrossing c else w

/-- The fade of the on-screen lamp alone, before a dark arrival or one in EMPTY (R82, R83). -/
def Work.beginFadeOff (w : Work) (d : DeckId) (dark : Option Service) : Work :=
  match w.st.pres.transition with
  | none => w
  | some t =>
    let c : Crossing :=
      { outgoing := some d, incoming := none, awaitOut := true, awaitIn := false, dark := dark, held := false }
    let w := (w.modTrans fun t => { t with serving := none, past := true }).setPriority d
    w.crossRamps t c

/-- The transition ends dark (R82): by a fade when a deck is on screen, else at once. -/
def Work.goDark (w : Work) (s : Service) : Work :=
  match w.st.pres.transition, w.st.pres.screen with
  | some _, some sc => w.beginFadeOff sc.deck (some s)
  | some t, none => w.arriveDark t.target s
  | none, _ => w

/-- CHANGING begins on the on-screen deck: its lamp fades out (R86). -/
def Work.beginChanging (w : Work) (d : DeckId) : Work :=
  match w.st.pres.transition with
  | none => w
  | some t =>
    let w := w.modTrans fun t => { t with serving := some d, stand := .fadeOut, lampLost := false }
    w.requestRamp d 0 (t.ms / 2)

/-- PENDING begins on deck `d` (R83, R84). -/
def Work.beginPending (w : Work) (d : DeckId) (s : Nat) : Work :=
  (w.modTrans fun t => { t with serving := some d, stand := .pending }).orderOn d s

/-- The transition proceeds on its serving deck, by the cases of R83. `changing` is set for a re-selection or takeover,
which makes the on-screen deck CHANGING (R68, R84, log 13). -/
def Work.serveOn (w : Work) (d : DeckId) (changing : Bool) : Work :=
  match w.st.pres.transition with
  | none => w
  | some t =>
    let s := w.st.pres.slotOf t.target
    let onScreen := match w.st.pres.screen with
      | some sc => decide (sc.deck = d)
      | none => false
    if onScreen then
      if (w.deck d).loadedAt s && !changing then w.beginCrossing d else w.beginChanging d
    else if (w.deck d).loadedAt s then w.beginCrossing d
    else w.beginPending d s

/-- The name of R81's list that a takeover excludes its deck for (log 9). -/
def takeoverReason (d : DeckId) (target : Nat) : Reason :=
  match Config.takeoverReason (DeckId.code d).toNat target with
  | 0 => .empty
  | 1 => .bad
  | 2 => .nodeck
  | 3 => .nolamp

/-- The deck runs a CHANGE for slot `s` with its ladder at stage 3, 4 or 5 (R68). -/
def Deck.pastTakeover (x : Deck) (s : Nat) : Bool :=
  match x.ladder with
  | some (t, stage) => t == s && decide (3 ≤ stage)
  | none => false

/-- TAKEOVER, if the transition waits on a deck past its takeover point (R68). -/
def Work.checkTakeover (w : Work) : Work :=
  let p := w.st.pres
  match p.transition with
  | none => w
  | some t =>
    match t.serving with
    | none => w
    | some d =>
      if p.state = .pending ∧ p.pairing = .mirror ∧ !t.tookOver ∧ (w.deck d).pastTakeover (p.slotOf t.target) then
        let w := w.modTrans fun t => { t.exclude d (takeoverReason d t.target) with tookOver := true }
        match w.st.pres.transition with
        | none => w
        | some t =>
          match w.st.select t.excluded (p.frameOf t.target) with
          | some e =>
            ((w.modPres fun p => p.setOrder d none).modTrans fun t => { t with reselected := true }).serveOn e true
          | none => w
      else w

/-- The cases of R83 for the transition in progress. At a resumption (R99) that finds no candidate the reason is R82's
first over the allowed decks, the decks excluded while FROZEN with their own (log 61). -/
def Work.proceed (w : Work) : Work :=
  match w.st.pres.transition with
  | none => w
  | some t =>
    if t.target = 0 then
      match w.st.pres.screen with
      | some sc => w.beginFadeOff sc.deck none
      | none => w.arriveEmpty
    else
      let f := w.st.pres.frameOf t.target
      match w.st.select t.excluded f with
      | none => w.goDark (w.st.darkService t.excluded f)
      | some d => (w.serveOn d false).checkTakeover

/-- A deck the transition relies on has failed: it is excluded, and the transition re-selects in MIRROR pairing or
ends dark (R84, R86, R94, R95); a deck chosen from then on is chosen by a re-selection, and the lamp of a fade-in that
fails is at 0 for it (R86, R87). While FROZEN only the exclusion is recorded (R98), with the later reason for a deck
that is excluded already (log 90). -/
def Work.failDeck (w : Work) (d : DeckId) (r : Reason) : Work :=
  let w := (w.modPres fun p => p.setOrder d none).modTrans fun t => { t.exclude d r with reselected := true }
  if w.st.pres.frozen then w
  else match w.st.pres.transition with
    | none => w
    | some t =>
      let f := w.st.pres.frameOf t.target
      match (if w.st.pres.pairing = .mirror then w.st.select t.excluded f else none) with
      | some e =>
        let w := if t.stand = .fadeIn then w.requestRamp d 0 0 else w
        (w.serveOn e true).checkTakeover
      | none => w.goDark r.service

/-- The incoming deck of a crossing has failed: its lamp is commanded to 0 (R87) and the transition goes on without
it (R94, R95). -/
def Work.failIncoming (w : Work) (d : DeckId) (r : Reason) : Work :=
  if w.st.pres.frozen then w.failDeck d r else (w.requestRamp d 0 0).failDeck d r

/-- TRANSITION_START (R83, R93): the class is resolved, the preload is settled, and a case of R83 begins; in a
CRITICAL zone the transition enters FROZEN at once. A READY preload whose slot has been marked since is dropped, the
selection passing its deck over (R70, log 89). -/
def Work.startTransition (w : Work) (target : Nat) : Work :=
  let p := w.st.pres
  let t : Transition :=
    { target := target, cls := p.classFor target, stand := .pending, excludedA := none, excludedB := none
      serving := none, reselected := false, tookOver := false, past := false, lampLost := false
      behindStop := false }
  let w := w.modPres fun p =>
    { p with transition := some t, cut := false, preload := none, preloadHeld := false }
  if w.st.lcu.zone = .critical then ((w.modPres fun p => { p with frozen := true }).sendStop .a).sendStop .b
  else w.proceed

/-! ## Ends of a cancelled transition (R97) -/

/-- The cancelled transition has ended: ABORTED is answered, a deferred commit applied and the preload computed. -/
def Work.endCancelled (w : Work) : Work :=
  let w := w.modPres fun p => { p with transition := none }
  (w.endRequest .aborted).applyDeferred.computePreload

/-- A return that ends without the slide: the current frame is served dark (R97), and the lamp that leaves the screen is
commanded to 0 (R87). FRAME_DARK joins before ABORTED (log 81). -/
def Work.returnDark (w : Work) (s : Service) : Work :=
  let w := match w.st.pres.screen with
    | some sc => w.requestRamp sc.deck 0 0
    | none => w
  let w := w.modPres fun p =>
    { p with transition := none, screen := none, service := s, hold := .absent }
  let w := w.frameDark
  (w.endRequest .aborted).applyDeferred.computePreload

/-- The last ramp of a cancellation, back to the current frame's level (R97). -/
def Work.rampBack (w : Work) (d : DeckId) (stand : Stand) : Work :=
  match w.st.pres.transition with
  | none => w
  | some t =>
    (w.requestRamp d (w.st.pres.effective w.st.pres.current) (t.ms / 2)).setStand stand

/-! ## Deck reports (R84, R86, R92, R97) -/

/-- The reason a report excludes its deck for (R84). -/
def outcomeReason : ChangeOutcome → Reason
  | .emptySlot => .empty
  | .badSlot | .failed => .bad
  | _ => .nodeck

def Deck.faulted (x : Deck) : Bool :=
  match x.state with
  | .fault _ => true
  | _ => false

/-- A report that settles the preload (R37, R92, R93). -/
def Work.preloadReport (w : Work) (d : DeckId) (outcome : ChangeOutcome) : Work :=
  match w.st.pres.preload with
  | none => w
  | some r =>
    if r.deck ≠ d ∨ w.st.pres.preloadHeld then w
    else if outcome = .fault ∨ (w.deck d).faulted then w.dropPreload
    else
      let ready := (w.deck d).loadedAt (w.st.pres.slotOf r.frame)
      w.modPres fun p => { p with preload := some { r with state := if ready then .ready else .failed } }

/-- A report on the CHANGE that a transition waits on (R84, R86, R97). -/
def Work.waitedReport (w : Work) (t : Transition) (d : DeckId) (outcome : ChangeOutcome) : Work :=
  let p := w.st.pres
  let s := p.slotOf t.target
  match t.stand with
  | .pending =>
    if (w.deck d).loadedAt s then (if p.frozen then w else w.beginCrossing d)
    else if outcome = .stopped ∧ !p.frozen then w.orderOn d s
    else if outcome = .stopped then w
    else w.failDeck d (outcomeReason outcome)
  | .change =>
    if t.lampLost || (w.lamp d).isDead then w.failDeck d .nolamp
    else if (w.deck d).loadedAt s then
      if p.frozen then w
      else (w.requestRamp d (p.effective t.target) (t.ms / 2)).modTrans fun t => { t with stand := .fadeIn, past := true }
    else if outcome = .stopped ∧ !p.frozen then w.orderOn d s
    else if outcome = .stopped then w
    else w.failDeck d (outcomeReason outcome)
  | .returnChange =>
    let back := match p.screen with | some sc => sc.slot | none => 0
    if p.frozen then w
    else if t.lampLost || (w.lamp d).isDead then w.returnDark .darkNolamp
    else if (w.deck d).loadedAt back then w.rampBack d .returnFade
    else if outcome = .stopped then w.orderOn d back
    else w.returnDark (outcomeReason outcome).service
  | _ => w

/-- The deck lost its place on screen (R94, R95). -/
def Work.loseScreen (w : Work) (s : Service) : Work :=
  (w.modPres fun p => { p with screen := none, service := s, hold := .absent }).frameDark

/-- While FROZEN, the loss of the on-screen deck or its lamp adds that deck to the excluded decks of the transition that
is held (R98), unless a failure has excluded it already (log 90). -/
def Work.noteLoss (w : Work) (d : DeckId) (r : Reason) : Work :=
  if w.st.pres.frozen then w.modTrans fun t => if (t.excluded d).isSome then t else t.exclude d r else w

/-- The deck is the on-screen deck, with the presentation SHOWING, PENDING or FROZEN (R94, R95, R98). -/
def Pres.losesScreen (p : Pres) (d : DeckId) : Bool :=
  match p.screen with
  | some sc => sc.deck == d && (p.state == .showing || p.state == .pending || p.state == .frozen)
  | none => false

/-- The roles a lost deck still holds once the transition has acted on it: the on-screen deck, and the outgoing deck
of a crossing (R94). -/
def Work.loseDeck (w : Work) (d : DeckId) : Work :=
  let w :=
    if w.st.pres.losesScreen d then ((w.requestRamp d 0 0).noteLoss d .nodeck).loseScreen .darkNodeck else w
  match w.st.pres.frozen, w.st.pres.transition with
  | false, some t => match t.stand with
    | .crossing c =>
      if c.outgoing = some d then
        let w := w.setStand (.crossing { c with outgoing := none, awaitOut := false })
        if c.held then w.requestRamp d 0 0
        else if c.awaitIn then w
        else match c.incoming, c.dark with
          | some i, _ => w.arrive t.target i t.reselected
          | none, some s => w.arriveDark t.target s
          | none, none => w.arriveEmpty
      else w
    | _ => w
  | _, _ => w

/-- What the loss of a deck does to a transition that relies on it (R84, R86, R94, R97). A cancellation that was fading
the on-screen deck back ends at once, dark (log 60). -/
def Work.loseServing (w : Work) (d : DeckId) : Work :=
  match w.st.pres.transition with
  | none => w
  | some t =>
    if t.serving ≠ some d then w
    else match t.stand with
      | .pending | .fadeOut | .change | .fadeIn => w.failDeck d .nodeck
      | .crossing c => if c.incoming = some d then w.failIncoming d .nodeck else w
      | .cancelFade | .returnChange | .returnFade => if w.st.pres.frozen then w else w.returnDark .darkNodeck

/-- The outcome is a failure of the deck (R84). -/
def ChangeOutcome.isFailure : ChangeOutcome → Bool
  | .emptySlot | .badSlot | .failed | .fault | .unavailable => true
  | _ => false

/-- A CHANGE left its deck in FAULT (R37, R61, R64). -/
def Blocks.endedInFault (b : Blocks) (d : DeckId) (outcome : ChangeOutcome) : Bool :=
  outcome == .fault || (outcome == .failed && (b.deck d).faulted)

/-- While FROZEN, a report of the CHANGE that a transition waits on adds the failing deck to its excluded decks (R98). An
older CHANGE, behind which the transition's order was held, says the deck's state alone (R84): its report excludes the
deck only where it leaves it in FAULT, with NODECK (R94). A lamp that was lost in a CHANGING transition's CHANGE is such
a failure, whatever the report (R95). A deck that is excluded already takes the later reason (log 90). -/
def Work.noteFailure (w : Work) (d : DeckId) (outcome : ChangeOutcome) : Work :=
  match w.st.pres.frozen, w.st.pres.transition with
  | true, some t =>
    if t.serving ≠ some d ∨ (t.stand ≠ .pending ∧ t.stand ≠ .change) then w
    else if t.stand = .change ∧ t.lampLost then w.modTrans fun t => t.exclude d .nolamp
    else if t.behindStop then if w.st.endedInFault d outcome then w.modTrans fun t => t.exclude d .nodeck else w
    else if outcome.isFailure then w.modTrans fun t => t.exclude d (outcomeReason outcome)
    else w
  | _, _ => w

/-- A CHANGE report (R37, R84). A superseded one is only noted (R63); so is the report of a CHANGE under a STOP, after
which the held order goes out (R84, R92). A FAULT that no transition waits on is R94's, one after ladder stage 5
included (R64); while FROZEN the FAULT of the on-screen deck in a CHANGING transition's CHANGE is both a failure of the
deck it waited on and the loss of the on-screen deck (log 73). -/
def Work.changeEnded (w : Work) (d : DeckId) (outcome : ChangeOutcome) (superseded : Bool) : Work :=
  if superseded then w
  else
    let p := w.st.pres
    if p.stopped d then
      let order := p.order d
      let w := (w.modPres fun p => (p.setStop d false).setOrder d none).noteFailure d outcome
      let w := match order with
        | some s => w.retarget d s
        | none => w
      let heldHere := match w.st.pres.preload with | some r => decide (r.deck = d) && w.st.pres.preloadHeld | none => false
      let w := if heldHere then w.dropPreload.computePreload else w
      if w.st.endedInFault d outcome && order.isNone then w.loseDeck d else w
    else
      let waited := match p.transition with
        | some t => t.serving == some d && (match t.stand with
          | .pending | .change | .returnChange => true
          | _ => false)
        | none => false
      let w := w.preloadReport d outcome
      match p.transition, waited with
      | some t, true => w.waitedReport t d outcome
      | _, _ =>
        if w.st.endedInFault d outcome then (w.loseServing d).loseDeck d else w

/-- The transition waits on deck `d` in PENDING, and a DROP of that CHANGE begins: past the point of no return; so is a
CHANGING transition's (R96). -/
def Work.dropBegan (w : Work) (d : DeckId) : Work :=
  w.modTrans fun t =>
    if t.serving = some d ∧ (t.stand = .pending ∨ t.stand = .change) then { t with past := true } else t

/-- The deck is ABSENT (R45, R72, R73, R93, R94). -/
def Work.deckAbsent (w : Work) (d : DeckId) : Work :=
  let w := (w.modPres fun p => { p.setCensus d false with mismatch := none }).dropPreloadOn d
  (w.loseServing d).loseDeck d

/-- A FAULT outside a CHANGE (R93, R94). -/
def Work.deckFaulted (w : Work) (d : DeckId) : Work := ((w.dropPreloadOn d).loseServing d).loseDeck d

/-- A census completed (R72). -/
def Work.censusReported (w : Work) (d : DeckId) : Work := (w.modPres fun p => p.setCensus d true).compareIfDue

/-- A tray was inserted (R72, R73). -/
def Work.trayInserted (w : Work) (d : DeckId) : Work :=
  w.modPres fun p => { p.setCensus d false with mismatch := none }

/-! ## LCU reports (R95, R122) -/

/-- A ramp completed (R85, R86, R90, R91, R97). A report that meets a newer ramp on its lamp says nothing of that one:
what the controller waits for has been requested since, and reports by itself (R117, R122). A DARK or LEVEL request
whose ramp was replaced by the loss of its deck ends OK at the report of the ramp that replaced it (log 86). -/
def Work.rampReported (w : Work) (d : DeckId) : Work :=
  let p := w.st.pres
  if p.frozen || (w.lamp d).ramp.isSome then w
  else if p.levelWait = some d then w.endRequest .ok
  else match p.transition with
    | none => w
    | some t => match t.stand with
      | .crossing c =>
        if c.held then w
        else
          let c := { c with
            awaitOut := c.awaitOut && !(c.outgoing == some d), awaitIn := c.awaitIn && !(c.incoming == some d) }
          let w := w.setStand (.crossing c)
          if c.awaitOut || c.awaitIn then w
          else match c.incoming, c.dark with
            | some i, _ => w.arrive t.target i t.reselected
            | none, some s => w.arriveDark t.target s
            | none, none => w.arriveEmpty
      | .fadeOut => if t.serving = some d then (w.setStand .change).orderOn d (p.slotOf t.target) else w
      | .fadeIn => if t.serving = some d then w.arrive t.target d t.reselected else w
      | .cancelFade => if t.serving = some d then w.endCancelled else w
      | .returnFade => if t.serving = some d then w.endCancelled else w
      | _ => w

/-- A lamp became DEAD (R95, R98). A CHANGING transition's CHANGE runs on and the lamp's loss is remembered until its
report; a lamp that leaves the screen is commanded to 0 (R87). -/
def Work.lampReportedDead (w : Work) (d : DeckId) : Work :=
  let loses := w.st.pres.losesScreen d
  let w := w.dropPreloadOn d
  let w := match w.st.pres.transition with
    | none => w
    | some t =>
      if t.serving ≠ some d then w
      else match t.stand with
        | .pending | .fadeOut | .fadeIn => w.failDeck d .nolamp
        | .crossing c => if c.incoming = some d then w.failIncoming d .nolamp else w
        | .cancelFade | .returnFade => if w.st.pres.frozen then w else w.returnDark .darkNolamp
        | .change =>
          if w.st.pres.frozen then w.failDeck d .nolamp else w.modTrans fun t => { t with lampLost := true }
        | .returnChange => w.modTrans fun t => { t with lampLost := true }
  if loses && w.st.pres.losesScreen d then ((w.requestRamp d 0 0).noteLoss d .nolamp).loseScreen .darkNolamp else w

/-- A lamp report (R111, R122). The hold of a crossing ends alike whatever put its incoming lamp OFF (log 76). -/
def Work.lampReported (w : Work) (d : DeckId) (r : LampReport) : Work :=
  match r with
  | .dead => w.lampReportedDead d
  | _ => match w.st.pres.frozen, w.st.pres.transition with
    | false, some t => match t.stand with
      | .crossing c =>
        if c.incoming ≠ some d then w
        else match r, c.held with
          | .left, false => w.holdCrossing c
          | .lit, true => w.crossRamps t c
          | .out, true => w.crossRamps t c
          | _, _ => w
      | _ => w
    | _, _ => w

/-! ## FROZEN and COOLDOWN (R98 to R100) -/

/-- The transition's order to its serving deck waits behind a STOP that was sent before (R84). -/
def Pres.servingStopped (p : Pres) (t : Transition) : Bool :=
  match t.serving with
  | some d => p.stopped d
  | none => false

/-- FROZEN_ENTRY (R98). -/
def Work.freeze (w : Work) : Work :=
  if w.st.pres.state = .empty ∨ w.st.pres.frozen then w
  else
    let w := w.modTrans fun t => { t with behindStop := w.st.pres.servingStopped t }
    let w := (w.modPres fun p => { p with frozen := true }).dropPreload
    let w := (w.sendStop .a).sendStop .b
    if w.st.pres.transition.isNone then w.endRequest .ok else w

/-- Every lamp but the on-screen one is commanded to 0 (R87), before a transition starts again. -/
def Work.darkenOthers (w : Work) : Work :=
  match w.st.pres.screen with
  | some sc => w.requestRamp sc.deck.other 0 0
  | none => (w.requestRamp .a 0 0).requestRamp .b 0 0

/-- The deck that the transition had chosen has been excluded, so that another choice is a re-selection (R84). -/
def Transition.servingExcluded (t : Transition) : Bool :=
  match t.serving with
  | some d => (t.excluded d).isSome
  | none => false

/-- FROZEN_EXIT (R99). -/
def Work.thaw (w : Work) : Work :=
  if !w.st.pres.frozen then w
  else
    let w := w.modPres fun p => { p with frozen := false }
    match w.st.pres.transition with
    | none =>
      let w := match w.st.pres.screen with
        | some sc => w.requestRamp sc.deck (w.st.pres.effective w.st.pres.current) 500
        | none => w
      w.computePreload
    | some t =>
      match t.stand with
      | .cancelFade | .returnChange | .returnFade =>
        match w.st.pres.screen with
        | none => w.endCancelled
        | some sc =>
          if (w.deck sc.deck).loadedAt sc.slot then
            (if t.lampLost || (w.lamp sc.deck).isDead then w.returnDark .darkNolamp else w.rampBack sc.deck .returnFade)
          else (w.setStand .returnChange).orderOn sc.deck sc.slot
      | _ =>
        let w := w.modTrans fun t => { t with reselected := t.reselected || t.servingExcluded }
        w.darkenOthers.proceed

/-- COOLDOWN_ENTRY (R100). -/
def Work.presCooldown (w : Work) : Work :=
  let w := ((w.sendStop .a).sendStop .b).dropPreload
  let motion := w.st.pres.transition.isSome
  let w := w.modPres fun p =>
    { p with
      current := 0, screen := none, service := .normal, hold := .absent, transition := none, frozen := false }
  (w.endRequest (if motion then .aborted else .ok)).applyDeferred

/-! ## Delivery of reports -/

/-- Hand one report to the block it is for; entry to COOLDOWN to the presentation controller, then to the tape unit
(log 94). -/
def Work.handle (w : Work) (m : Msg) : Work :=
  match m with
  | .dark d => w.darkAnswered d
  | .changeEnded d _ outcome superseded => w.changeEnded d outcome superseded
  | .ladder _ _ _ => w.checkTakeover
  | .dropBegan d => w.dropBegan d
  | .absent d => w.deckAbsent d
  | .faulted d => w.deckFaulted d
  | .censusDone d => w.censusReported d
  | .inserted d => w.trayInserted d
  | .lamp d r => w.lampReported d r
  | .ramp d _ => w.rampReported d
  | .critical true => w.freeze
  | .critical false => w.thaw
  | .cooldown => w.presCooldown.stopTape

/-- Deliver the reports a step raises, oldest first, with those they raise in turn (log 35). -/
def Work.deliver : Nat → Work → Work
  | 0, w => w
  | n + 1, w =>
    match w.msgs with
    | [] => w
    | m :: ms => Work.deliver n (({ w with msgs := ms } : Work).handle m)

/-- How many reports one step delivers at most (log 35). -/
def deliverFuel : Nat := 64

/-! ## Grants (R78, R90, R91) -/

def Kind.isMotion : Kind → Bool
  | .advance | .reverse | .goto | .chase => true
  | _ => false

/-- The target of a motion request (R78 to R80). -/
def Pres.targetOf (p : Pres) (r : Request) : Nat :=
  match r.kind with
  | .advance => p.advanceFrom p.current
  | .reverse => p.reverseFrom p.current
  | _ => r.arg.getD 0

/-- Ramp the on-screen lamp over 0.5 s; the level request ends when that ramp completes (R90, R91). -/
def Work.levelRamp (w : Work) (d : DeckId) : Work :=
  (w.requestRamp d (w.st.pres.effective w.st.pres.current) 500).modPres fun p => { p with levelWait := some d }

/-- A granted DARK (R90). -/
def Work.grantDark (w : Work) (arg : Nat) : Work :=
  let p := w.st.pres
  let on := match arg with
    | 0 => false
    | 1 => true
    | _ => !p.blackout
  if on = p.blackout then w.endRequest .ok
  else
    let w := w.modPres fun p => { p with blackout := on, turnedOn := on }
    match p.showingOn with
    | some d => w.levelRamp d
    | none => w.endRequest .ok

/-- A granted motion request (R78). -/
def Work.grantMotion (w : Work) (r : Request) : Work :=
  let p := w.st.pres
  if w.st.lcu.power ≠ .active then w.endRequest .wrongPowerState
  else if (r.kind = .goto ∨ r.kind = .chase) ∧ p.count < r.arg.getD 0 then w.endRequest .badArgument
  else if r.kind = .reverse ∧ p.current = 0 then w.endRequest .atStart
  else
    let t := p.targetOf r
    if t = p.current ∧ (t = 0 ∨ p.screen.isSome) then w.endRequest .ok else w.startTransition t

/-- The grant of a request (R78). -/
def Work.grant (w : Work) (r : Request) : Work :=
  let w := w.modPres fun p => { p with granted := some r, turnedOn := false }
  match r.kind with
  | .dark => w.grantDark (r.arg.getD 0)
  | .cut => (w.modPres fun p => { p with cut := true }).endRequest .ok
  | .dissolve => (w.modPres fun p => { p with defaultClass := min 7 (r.arg.getD 0) }).endRequest .ok
  | .level =>
    let w := w.modPres fun p => { p with master := max 10 (min 100 (r.arg.getD 0)) }
    match w.st.pres.showingOn, w.st.pres.blackout with
    | some d, false => w.levelRamp d
    | _, _ => w.endRequest .ok
  | _ => w.grantMotion r

/-! ## ABORT of a granted request (R96 to R98) -/

/-- ABORT naming the granted request (R97). A PENDING transition that a re-selection or a restart brought from CHANGING
returns to SHOWING like any other, with the deck that was on screen still there, its lamp at the level it was last
commanded to (log 59). -/
def Work.abortGranted (w : Work) : Work :=
  let p := w.st.pres
  match p.transition with
  | none => w
  | some t =>
    if t.past then w
    else match t.stand, p.frozen with
      | .pending, false =>
        let w := match t.serving with
          | some d => w.sendStop d
          | none => w
        w.endCancelled
      | .fadeOut, false => match t.serving with
        | some d => w.rampBack d .cancelFade
        | none => w
      | .change, false => match p.screen with
        | some sc => (w.setStand .returnChange).orderOn sc.deck sc.slot
        | none => w
      | .change, true => w.setStand .returnChange
      | .pending, true | .fadeOut, true =>
        let w := w.modPres fun p => { p with transition := none, frozen := p.current != 0 }
        (w.endRequest .aborted).applyDeferred
      | _, _ => w

/-! ## The hold timer (R89) -/

/-- HOLD_TIMER_EXPIRY. -/
def Work.holdExpiry (w : Work) : Work :=
  match w.st.pres.hold with
  | .running _ =>
    let w := w.modPres fun p => { p with hold := .expired }
    match w.st.pres.showingOn, w.st.pres.granted with
    | some d, none =>
      if 40 < (w.lamp d).output then (w.requestRamp d 40 2000).event .holdEconomy [byte w.st.pres.current] else w
    | _, _ => w
  | _ => w

end Sys2Proof.Machine
end

