-- ==== Sys2Proof/Machine/Edits.lean ====
section
/-! DEFINITION. The commands on tray maps, the frame table and the edit buffer (01_show_records.md R4, R8, R19 to R26),
and the cursor's writes as edits (R205). -/

namespace Sys2Proof.Machine

/-- SLOT_READ (R4). -/
def cmdSlotRead (t : Ticket) (deck : Byte) (first n : Nat) (w : Work) : Work :=
  withDeck t deck (fun d w =>
    match (w.deck d).map with
    | none => w.answer t .deckUnavailable []
    | some m =>
      if 8 < n ∨ m.size ≤ first then w.answer t .badArgument []
      else
        let rs := (m.slots.drop first).take n
        w.answer t .ok ([byte m.size, byte rs.length] ++ rs.flatMap SlotRecord.bytes)) w

/-- FRAME_READ (R8). -/
def cmdFrameRead (t : Ticket) (first n : Nat) (w : Work) : Work :=
  let p := w.st.pres
  if 4 < n ∨ (0 < n ∧ (first = 0 ∨ p.count < first)) then w.answer t .badArgument []
  else
    let fs := if n = 0 then [] else (p.frames.drop (first - 1)).take n
    w.answer t .ok ([byte p.count, byte fs.length] ++ fs.flatMap Frame.bytes)

/-- A copy of frames first..first+n−1, blank above the count (R20). -/
def copyRun (p : Pres) (first n : Nat) : List Frame := (List.range n).map fun k => p.frameOf (first + k)

/-- EDIT_OPEN (R20). -/
def cmdEditOpen (t : Ticket) (first n : Nat) (w : Work) : Work :=
  match w.st.pres.edit with
  | .deferred .. => w.answer t .inUse []
  | _ =>
    if first < 1 ∨ 200 < first ∨ n < 1 ∨ 16 < n ∨ 200 < first + n - 1 then w.answer t .badArgument []
    else (w.modPres fun p => { p with edit := .opened first (copyRun p first n) }).answer t .ok [byte first, byte n]

/-- EDIT_SET (R21). -/
def cmdEditSet (t : Ticket) (index field value : Nat) (w : Work) : Work :=
  match w.st.pres.edit with
  | .closed => w.answer t .wrongState []
  | .deferred .. => w.answer t .inUse []
  | .opened f run =>
    match (if index = 0 then none else run[index - 1]?) with
    | none => w.answer t .badArgument []
    | some r => match r.write field value with
      | none => w.answer t .badArgument []
      | some r' => (w.modPres fun p => { p with edit := .opened f (run.set (index - 1) r') }).answer t .ok []

/-- EDIT_COMMIT (R22). -/
def cmdEditCommit (lock : RangeLock) (t : Ticket) (target : Nat) (w : Work) : Work :=
  match w.st.pres.edit with
  | .closed => w.answer t .wrongState []
  | .deferred .. => w.answer t .inUse []
  | .opened f run =>
    let p := w.st.pres
    let at' := if target = 0 then f else target
    if at' < 1 ∨ p.count + 1 < at' ∨ 200 < at' + run.length - 1 then w.answer t .badArgument []
    else if lock.protectsAny at' run.length then w.answer t .rangeLocked []
    else if (List.range run.length).any fun k => p.inTransition (at' + k) then
      w.modPres fun p => { p with edit := .deferred f run at' t }
    else
      let w := w.applyCommit run at'
      w.answer t .ok [byte w.st.pres.count]

/-- EDIT_CANCEL (R24). -/
def cmdEditCancel (t : Ticket) (w : Work) : Work :=
  match w.st.pres.edit with
  | .deferred .. => w.answer t .inUse []
  | _ => (w.modPres fun p => { p with edit := .closed }).answer t .ok []

/-- ABORT of a deferred commit (R23). -/
def Work.abortCommit (w : Work) : Work :=
  match w.st.pres.edit with
  | .deferred f run _ ticket =>
    (w.modPres fun p => { p with edit := .opened f run }).answer ticket .aborted []
  | _ => w

def Pres.commitDeferred (p : Pres) : Bool :=
  match p.edit with
  | .deferred .. => true
  | _ => false

/-- What keeps the table from shrinking to `m` frames (R25). -/
def Pres.shrinkInUse (p : Pres) (m : Nat) : Bool :=
  decide (m < p.current) ||
  (match p.preload with | some r => decide (m < r.frame) | none => false) ||
  (match p.transition with | some t => decide (m < t.target) | none => false) ||
  p.commitDeferred

/-- SET_FRAME_COUNT (R25). LOOP_OFF joins before its OK (log 81). -/
def cmdSetFrameCount (lock : RangeLock) (t : Ticket) (m : Nat) (w : Work) : Work :=
  let p := w.st.pres
  if p.mode ≠ .setup then w.answer t .wrongMode []
  else if p.count < m then w.answer t .badArgument []
  else if p.shrinkInUse m then w.answer t .inUse []
  else if lock.protectsAny (m + 1) (p.count - m) then w.answer t .rangeLocked []
  else
    let w := if m = p.count then w else w.applyFrames (p.frames.take m) false false
    w.answer t .ok [byte m]

/-- A frame that LAYOUT builds (R26). -/
def layoutFrame (d : DeckId) (s : Nat) : Frame := { blankFrame with deck := d, slot := s }

/-- The table LAYOUT builds from the tray maps (R26). -/
def layoutFrames (a b : Deck) (pairing : Pairing) : List Frame :=
  ((List.range 100).drop 1).flatMap fun s =>
    let pa := a.readsPresent s
    let pb := b.readsPresent s
    match pairing with
    | .alternate => (if pa then [layoutFrame .a s] else []) ++ (if pb then [layoutFrame .b s] else [])
    | .mirror => if pa || pb then [layoutFrame .a s] else []
    | .single => if pa then [layoutFrame .a s] else []

/-- LAYOUT (R26). LOOP_OFF joins before its OK (log 81). -/
def cmdLayout (lock : RangeLock) (t : Ticket) (pairing : Byte) (w : Work) : Work :=
  let p := w.st.pres
  if p.mode ≠ .setup then w.answer t .wrongMode []
  else if p.state ≠ .empty then w.answer t .wrongState []
  else match pairingOf pairing with
    | none => w.answer t .badArgument []
    | some q =>
      let frames := layoutFrames w.st.deckA w.st.deckB q
      if p.commitDeferred then w.answer t .inUse []
      else if lock.protectsAny 1 (max p.count frames.length) then w.answer t .rangeLocked []
      else (w.dropPreload.applyFrames frames false false).answer t .ok [byte frames.length]

/-- The checks of a cursor frame write, in the order of R205, and the record it would leave. -/
def cursorFrameCheck (lock : RangeLock) (p : Pres) (i field value : Nat) : Status × Option Frame :=
  match p.frame? i with
  | none => (.badArgument, none)
  | some f => match f.write field value with
    | none => (.badArgument, none)
    | some f' =>
      if lock.protects i then (.rangeLocked, none)
      else if p.inTransition i then (.inUse, none)
      else (.ok, some f')

/-- A cursor frame write is applied: only the field written takes effect on the current frame (R16, R205). -/
def Work.cursorFrame (w : Work) (i field : Nat) (f : Frame) : Work :=
  let p := w.st.pres
  let here := decide (i = p.current)
  w.applyFrames (p.frames.set (i - 1) f) (here && field == 3) (here && field == 4)

/-- The checks of a cursor slot write, in the order of R205. -/
def cursorSlotCheck (x : Deck) (s field value : Nat) : Status :=
  match x.map with
  | none => .deckUnavailable
  | some m =>
    if s = 0 ∨ m.size ≤ s then .badArgument
    else if field ≠ 1 ∨ (value ≠ 0 ∧ value ≠ 7) then .badArgument
    else if value = 0 ∧ x.ladderOn s then .inUse
    else .ok

/-- A cursor slot write is applied (R3, R205). -/
def Work.cursorSlot (w : Work) (d : DeckId) (s value : Nat) : Work :=
  if value = 7 then w.markSlot d s else w.reloadSlot d s

end Sys2Proof.Machine
end

