-- ==== Sys2Proof/Machine/ShowCommands.lean ====
section
/-! DEFINITION. The deck commands (R47 to R55, R70, R71, R74) and the presentation commands that act on the show
position record directly (R104 to R109). -/

namespace Sys2Proof.Machine

/-! ## Deck commands -/

/-- The deck is the on-screen deck or the serving deck of a transition in progress (R48 to R51). -/
def Pres.uses (p : Pres) (d : DeckId) : Bool :=
  (match p.screen with | some sc => sc.deck == d | none => false) ||
  (match p.transition with | some t => t.serving == some d | none => false)

/-- The refusal of a command that starts an operation on the deck (R48 to R50). -/
def Blocks.operationRefusal (b : Blocks) (d : DeckId) : Option Status :=
  match (b.deck d).state with
  | .absent => some .deckUnavailable
  | .fault _ => some .wrongState
  | .busy _ => some .inUse
  | _ => if b.pres.uses d then some .inUse else none

/-- Start an operation for the host, or refuse it; a READY preload on the deck is dropped first (R47). -/
def Work.hostOperation (w : Work) (t : Ticket) (d : DeckId) (kind : OpKind) : Work :=
  match w.st.operationRefusal d with
  | some r => w.answer t r []
  | none => (w.dropReadyOn d).startOperation d kind (.host t)

/-- DECK_HOME (R48). -/
def cmdDeckHome (t : Ticket) (deck : Byte) (w : Work) : Work :=
  withDeck t deck (fun d w => w.hostOperation t d .home) w

/-- DECK_CENSUS (R49). -/
def cmdDeckCensus (t : Ticket) (deck : Byte) (w : Work) : Work :=
  withDeck t deck (fun d w =>
    match w.st.pres.mode with
    | .show | .program => w.answer t .wrongMode []
    | _ => w.hostOperation t d .census) w

/-- DECK_RELEASE (R50). -/
def cmdDeckRelease (t : Ticket) (deck : Byte) (w : Work) : Work :=
  withDeck t deck (fun d w => w.hostOperation t d .release) w

/-- DECK_SERVICE (R51). -/
def cmdDeckService (t : Ticket) (deck on : Byte) (w : Work) : Work :=
  withDeck t deck (fun d w =>
    match onOff on with
    | none => w.answer t .badArgument []
    | some true => (w.modDeck d fun x => { x with inService := true }).answer t .ok []
    | some false =>
      if w.st.pres.uses d then w.answer t .inUse []
      else ((w.modDeck d fun x => { x with inService := false }).dropPreloadOn d).answer t .ok []) w

/-- DECK_CLEAR (R52). -/
def cmdDeckClear (t : Ticket) (deck : Byte) (w : Work) : Work :=
  withDeck t deck (fun d w =>
    match (w.deck d).state with
    | .absent => w.answer t .deckUnavailable []
    | .fault _ =>
      if (w.deck d).gateMade then w.answer t .jamPresent []
      else
        let w := (w.releaseClaim d).modDeck d fun x => { x with state := .unhomed 0, position := none }
        w.startOperation d .home (.host t)
    | _ => w.answer t .wrongState []) w

/-- DECK_STATUS's fields (R53). -/
def deckStatusFields (x : Deck) : List Byte :=
  let gate : List Byte := match x.state with
    | .idle (.loaded s) => [0, byte s]
    | .idle .empty => [1, 255]
    | _ => [255, 255]
  let op : List Byte := match x.state with
    | .busy op => [OpKind.code op.kind, byte op.target, Phase.code op.phase, byte op.stage] ++ Requester.code op.requester
    | _ => [255, 255, 255, 255, 255, 0, 0]
  let kind : Byte := match x.state with
    | .fault k => FaultKind.code k
    | _ => 255
  [DeckState.code x.state] ++ gate ++ op ++
  [kind, optByte x.position, optByte x.size, Bool.code x.inService, Bool.code x.censusOnLoad, Bool.code x.censusOwed,
    byte x.slips, byte x.pass, Bool.code (!x.latchClosed)]

/-- DECK_STATUS (R53). -/
def cmdDeckStatus (t : Ticket) (deck : Byte) (w : Work) : Work :=
  withDeck t deck (fun d w => w.answer t .ok (deckStatusFields (w.deck d))) w

/-- SET_DECK_OPTIONS (R54). -/
def cmdSetDeckOptions (t : Ticket) (deck on : Byte) (w : Work) : Work :=
  withDeck t deck (fun d w =>
    match onOff on with
    | none => w.answer t .badArgument []
    | some true => (w.modDeck d fun x => { x with censusOnLoad := true }).answer t .ok []
    | some false => (w.modDeck d fun x => { x with censusOnLoad := false, censusOwed := false }).answer t .ok []) w

/-- The checks of SLOT_MARK and SLOT_RELOAD (R70, R71). -/
def slotRefusal (x : Deck) (s : Nat) : Option Status :=
  match x.map with
  | none => some .deckUnavailable
  | some m => if s = 0 ∨ m.size ≤ s then some .badArgument else none

/-- The slot record after a write, as SLOT_MARK and SLOT_RELOAD answer it (R70, R71). -/
def slotFields (x : Deck) (s : Nat) : List Byte :=
  match x.slot? s with
  | some r => r.bytes
  | none => []

/-- SLOT_MARK (R70). SLOT_BAD joins before its OK (log 81). -/
def cmdSlotMark (t : Ticket) (deck : Byte) (s : Nat) (w : Work) : Work :=
  withDeck t deck (fun d w =>
    match slotRefusal (w.deck d) s with
    | some r => w.answer t r []
    | none =>
      let w := w.markSlot d s
      w.answer t .ok (slotFields (w.deck d) s)) w

/-- SLOT_RELOAD (R71). -/
def cmdSlotReload (t : Ticket) (deck : Byte) (s : Nat) (w : Work) : Work :=
  withDeck t deck (fun d w =>
    match slotRefusal (w.deck d) s with
    | some r => w.answer t r []
    | none =>
      if (w.deck d).ladderOn s then w.answer t .inUse []
      else
        let w := w.reloadSlot d s
        w.answer t .ok (slotFields (w.deck d) s)) w

/-- COMPARE_READ (R74). -/
def cmdCompareRead (t : Ticket) (w : Work) : Work :=
  w.answer t .ok <|
    match w.st.pres.mismatch with
    | none => [0]
    | some c =>
      [1, byte c.passA, byte c.passB, byte c.total, Bool.code c.overflow, byte c.slots.length] ++ c.slots.map byte

/-! ## Presentation commands -/

/-- SET_MODE (R104). What the tape unit answers and raises at the change (R148, R160) joins before its OK (log 81). -/
def cmdSetMode (t : Ticket) (mode : Byte) (w : Work) : Work :=
  match modeOf mode with
  | none => w.answer t .badArgument []
  | some m =>
    let old := w.st.pres.mode
    if m = old then w.answer t .ok []
    else if m = .program ∧ (w.st.tape.isPlaying ∨ w.st.tape.isRecording) then w.answer t .wrongState []
    else
      let w := w.modPres fun p => { p with mode := m }
      let w := if old = .show then w.post .flush else w
      (w.modeChanged old).answer t .ok []

/-- SET_PAIRING (R105). The CENSUS_MISMATCH of the compare it makes is raised before its own OK (log 72). -/
def cmdSetPairing (t : Ticket) (pairing : Byte) (w : Work) : Work :=
  match w.st.pres.mode with
  | .show | .program => w.answer t .wrongMode []
  | _ => match pairingOf pairing with
    | none => w.answer t .badArgument []
    | some q =>
      if w.st.pres.state ≠ .empty then w.answer t .wrongState []
      else
        let w := w.modPres fun p => { p with pairing := q }
        let w := if q = .mirror then w.compareIfDue else w
        w.answer t .ok []

/-- SET_LOOP (R106). -/
def cmdSetLoop (t : Ticket) (start stop : Nat) (on : Byte) (w : Work) : Work :=
  match onOff on with
  | none => w.answer t .badArgument []
  | some b =>
    if start < 1 ∨ 200 < start ∨ stop < 1 ∨ 200 < stop ∨ stop < start ∨ (b ∧ w.st.pres.count < stop) then
      w.answer t .badArgument []
    else
      let slot := w.st.pres.preloadSlot
      let w := w.modPres fun p => { p with loopStart := start, loopEnd := stop, loopOn := b }
      (w.rederive slot).answer t .ok []

/-- SET_DEFAULT_CLASS (R107). -/
def cmdSetDefaultClass (t : Ticket) (c : Nat) (w : Work) : Work :=
  if 7 < c then w.answer t .badArgument []
  else (w.modPres fun p => { p with defaultClass := c }).answer t .ok []

/-- SET_MASTER_LEVEL (R108). -/
def cmdSetMasterLevel (t : Ticket) (m : Nat) (w : Work) : Work :=
  if m < 10 ∨ 100 < m then w.answer t .badArgument []
  else
    let w := w.modPres fun p => { p with master := m }
    let p := w.st.pres
    let w := match p.showingOn, p.granted, p.blackout with
      | some d, none, false => w.requestRamp d (p.effective p.current) 500
      | _, _, _ => w
    w.answer t .ok []

/-- A cancellation or return of the transition (R97, R109). -/
def Stand.isReturn : Stand → Bool
  | .cancelFade | .returnChange | .returnFade => true
  | _ => false

/-- The presentation state a frozen transition was interrupted in (R98, R109). -/
def Pres.interrupted (p : Pres) : PresState := ({ p with frozen := false } : Pres).state

/-- GET_POSITION's fields (R9, R109, log 6). -/
def positionFields (p : Pres) : List Byte :=
  [byte p.current, PresState.code p.state, optDeckCode (p.screen.map fun s => s.deck),
    optByte (p.screen.map fun s => s.slot), Service.code p.service, Bool.code p.blackout, byte p.master,
    byte p.defaultClass, if p.cut then 0 else 255, HoldTimer.code p.hold, byte p.loopStart, byte p.loopEnd,
    Bool.code p.loopOn, Mode.code p.mode, Pairing.code p.pairing, byte p.count] ++
  presentByte (match p.hold with | .running left => some ((left + 999) / 1000) | _ => none) ++
  (match p.preload with
   | some r => [byte r.frame, DeckId.code r.deck, PreloadState.code r.state]
   | none => [255, 255, 255]) ++
  (match p.granted with
   | some r => [Source.code r.source, Kind.code r.kind] ++ presentByte r.arg ++
      presentByte (r.ticket.map fun t => t.tag.toNat)
   | none => [255, 255, 0, 0, 0, 0]) ++
  (if p.frozen then
    match p.transition with
    | some t => [PresState.code p.interrupted, byte t.target, byte t.cls, Bool.code t.stand.isReturn]
    | none => [PresState.code p.interrupted, 255, 255, 0]
  else [255, 255, 255, 0]) ++
  (match p.transition with
   | some t => [optReasonCode t.excludedA, optReasonCode t.excludedB]
   | none => [255, 255])

/-- GET_POSITION (R109). -/
def cmdGetPosition (t : Ticket) (w : Work) : Work := w.answer t .ok (positionFields w.st.pres)

/-- The presentation controller at a part reset (R12, R19, R72, R73). -/
def Pres.partReset (p : Pres) : Pres :=
  { Pres.reset with
    frames := p.frames, pairing := p.pairing, loopStart := p.loopStart, loopEnd := p.loopEnd, loopOn := p.loopOn
    defaultClass := p.defaultClass, censusA := p.censusA, censusB := p.censusB, mismatch := p.mismatch }

/-- One millisecond of the hold timer (log 3). -/
def Pres.tick (p : Pres) : Pres :=
  match p.hold with
  | .running left => { p with hold := .running (left - 1) }
  | _ => p

end Sys2Proof.Machine
end

