-- ==== Sys2Proof/Machine/LinkReads.lean ====
section
/-! DEFINITION. The pair link port's replies (09_pair_link.md R200 to R204, 11.4): STATUS, CURSOR and the held read. -/

namespace Sys2Proof.Machine

/-- The STATUS reply (R202, 11.4). -/
def Blocks.statusReply (b : Blocks) : List Byte :=
  let p := b.pres
  let l := b.link
  [byte p.current,
    byte (32 * (PresState.code p.state).toNat + 8 * (optDeckCode (p.screen.map fun s => s.deck)).toNat +
      if p.blackout then 1 else 0),
    byte (16 * (Service.code p.service).toNat + (Mode.code p.mode).toNat),
    match l.requestResult with | some r => Status.code r.status | none => 255,
    match l.cursorResult with | some r => Status.code r.status | none => 255,
    byte ((if l.overrun then 128 else 0) + (match l.readSelect with | .status => 0 | .cursor => 64) + l.outstanding)]

/-- What a cursor read finds (R204). -/
inductive CursorValue where
  | value (v : Byte)
  | noEntry
  | absent
  deriving DecidableEq, Repr

def valueOr : Option Byte → CursorValue
  | some v => .value v
  | none => .absent

/-- A field of a slot record, by its place (R203). -/
def slotField (r : SlotRecord) (field : Nat) : CursorValue :=
  match field with
  | 0 => .value (Presence.code r.presence)
  | 1 => .value (byte r.faults)
  | 2 => .value (conditionCode r.faults)
  | _ => valueOr (r.pass.map byte)

/-- A field of the show position, by its place (R203). -/
def positionField (p : Pres) (field : Nat) : CursorValue :=
  match field with
  | 0 => .value (byte p.current)
  | 1 => .value (PresState.code p.state)
  | 2 => .value (optDeckCode (p.screen.map fun s => s.deck))
  | 3 => valueOr (p.screen.map fun s => byte s.slot)
  | 4 => .value (Service.code p.service)
  | 5 => .value (Bool.code p.blackout)
  | 6 => .value (byte p.master)
  | 7 => .value (byte p.defaultClass)
  | 8 => .value (Mode.code p.mode)
  | 9 => .value (Pairing.code p.pairing)
  | 10 => .value (byte p.count)
  | 11 => valueOr (p.preload.map fun r => byte r.frame)
  | _ => valueOr (p.preload.map fun r => PreloadState.code r.state)

def deckSlotValue (x : Deck) (index field : Nat) : CursorValue :=
  match x.slot? index with
  | some r => slotField r field
  | none => .noEntry

/-- The field under the cursor (R204). -/
def Blocks.cursorValue (b : Blocks) : CursorValue :=
  let c := b.link.cursor
  match c.table with
  | .frame => match b.pres.frame? c.index with
    | some f => valueOr (f.bytes[c.field]?)
    | none => .noEntry
  | .slotA => deckSlotValue b.deckA c.index c.field
  | .slotB => deckSlotValue b.deckB c.index c.field
  | .position => positionField b.pres c.field

/-- The CURSOR reply (R204, 11.4). -/
def Blocks.cursorReply (b : Blocks) : List Byte :=
  let c := b.link.cursor
  [byte c.table.num, byte c.index, byte (c.field + if c.step then 128 else 0)] ++
    match b.cursorValue with
    | .value v => [0, v]
    | .noEntry => [1, 0]
    | .absent => [2, 0]

/-- The next index in a slot table of the deck (R203). -/
def nextSlotIndex (x : Deck) (i : Nat) : Nat :=
  let size := x.size.getD 100
  if size ≤ i + 1 then 0 else i + 1

/-- The cursor after a data access (R203). -/
def Blocks.stepCursor (b : Blocks) : Cursor :=
  let c := b.link.cursor
  if c.step then
    match c.table with
    | .frame => { c with index := if 200 ≤ c.index then 1 else c.index + 1 }
    | .slotA => { c with index := nextSlotIndex b.deckA c.index }
    | .slotB => { c with index := nextSlotIndex b.deckB c.index }
    | .position => c
  else c

/-- A cursor read builds its reply, and the cursor steps (R200, R203). -/
def Blocks.readCursor (b : Blocks) : Blocks :=
  { b with link := { b.link with reply := b.cursorReply, cursor := b.stepCursor, readHold := none } }

/-- A cursor read is held: its frame is one that a deferred commit will write (R201). -/
def Blocks.readHeld (b : Blocks) : Bool :=
  match b.link.cursor.table, b.pres.edit with
  | .frame, .deferred _ run t _ => decide (t ≤ b.link.cursor.index ∧ b.link.cursor.index < t + run.length)
  | _, _ => false

/-- A held read is answered at the event that ends the deferral (R201). -/
def Blocks.settleRead (b : Blocks) : Blocks :=
  if b.link.readHold.isSome && !b.readHeld then b.readCursor else b

/-- The port ACKs a read of this address (R195). -/
def Link.acksRead (l : Link) (address : Nat) : Bool := l.station != 0 && address == l.station

/-- The port ACKs a write to this address (R195). -/
def Link.acksWrite (l : Link) (address : Nat) : Bool :=
  l.station != 0 &&
    (match address with
     | 0 => true
     | 8 => l.group8
     | 9 => l.group9
     | 10 => l.group10
     | 11 => l.group11
     | n => n == l.station)

/-- LINK_READ: a START and a read address byte (R195, R196, R200, R201). -/
def Blocks.linkRead (b : Blocks) (address : Nat) : Blocks :=
  let l := { b.link with assembly := none, readHold := none, reply := [] }
  if l.acksRead address then
    match l.readSelect with
    | .status => { b with link := { l with ack := some true, reply := b.statusReply } }
    | .cursor =>
      let b := { b with link := { l with ack := some true, readHold := some 0 } }
      if b.readHeld then b else b.readCursor
  else { b with link := { l with ack := some false } }

/-- LINK_ADDRESS_BYTE: a START and a write address byte (R195, R196). -/
def Link.addressByte (l : Link) (address : Nat) : Link :=
  let l := { l with assembly := none, readHold := none, reply := [] }
  if l.acksWrite address then
    { l with ack := some true, assembly := some { address := address, bytes := [], state := .accepted } }
  else { l with ack := some false }

/-- How many argument bytes a request code takes (R196). -/
def argCount (code : Nat) : Nat :=
  match code with
  | 3 => 1
  | 4 => 1
  | 5 => 1
  | 6 => 3
  | 7 => 1
  | _ => 0

/-- LINK_ARGUMENT_BYTE (R196, R197). -/
def Link.argumentByte (l : Link) (v : Byte) : Link :=
  match l.assembly with
  | none => l
  | some a =>
    match a.bytes, a.state with
    | [], _ => l
    | code :: args, .accepted =>
      if args.length < argCount code.toNat then
        { l with ack := some true, assembly := some { a with bytes := a.bytes ++ [v] } }
      else { l with ack := some false, assembly := some { a with state := .malformed } }
    | _, _ => { l with ack := some false }

/-- The code byte of a write frame (R197): the acknowledge and the state the frame takes; `full` says that the LINK
queue holds 4 entries. The last value says that the overrun flag becomes set. -/
def Link.judgeCode (l : Link) (code : Nat) (full : Bool) : FrameState × Bool :=
  if code = 8 then (.accepted, false)
  else if code = 0 ∨ 8 < code then (.malformed, false)
  else if l.overrun then (.refused, false)
  else if code ≤ 4 ∧ full then (.refused, true)
  else (.accepted, false)

/-- LINK_CODE_BYTE (R197). -/
def Work.linkCodeByte (w : Work) (v : Byte) (full : Bool) : Work :=
  match w.st.link.assembly with
  | none => w
  | some a =>
    if a.bytes ≠ [] then w
    else
      let (state, overruns) := w.st.link.judgeCode v.toNat full
      let w := w.modLink fun l =>
        { l with
          ack := some (state == .accepted), overrun := l.overrun || overruns
          assembly := some { a with bytes := [v], state := state } }
      if overruns then w.event .linkOverrun ([byte w.st.link.station, v] ++ word w.st.tape.count) else w

/-- The bytes of a complete frame, if one stands in the assembly (R196). -/
def Link.completeFrame (l : Link) : Option (List Byte) :=
  match l.assembly with
  | some a => match a.bytes, a.state with
    | code :: args, .accepted => if args.length = argCount code.toNat then some a.bytes else none
    | _, _ => none
  | none => none

/-- An argument that the STOP finds outside R196's table. -/
def badArgumentFrame (bytes : List Byte) : Bool :=
  match bytes with
  | [code, v] => (code.toNat == 4 && decide (2 < v.toNat)) || (code.toNat == 5 && decide (1 < v.toNat))
  | _ => false

/-- INCOMPLETE_FRAME_DISCARD (R196): by a START, or by a STOP, which counts a format error in the cases R196 gives. -/
def Link.discardFrame (l : Link) (byStart : Bool) : Link :=
  match l.assembly with
  | none => l
  | some a =>
    let gone := { l with assembly := none }
    let wrong := { gone with formatErrors := sat255 l.formatErrors }
    if byStart then gone
    else match a.state, a.bytes with
      | .refused, _ => gone
      | .malformed, _ => wrong
      | .accepted, [] => gone
      | .accepted, code :: args =>
        if args.length < argCount code.toNat then wrong
        else if badArgumentFrame a.bytes then wrong
        else l

/-- READ_HOLD_TIMEOUT (R201): NOT_READY. -/
def Link.holdTimeout (l : Link) : Link :=
  if l.readHold.isSome then { l with readHold := none, reply := [254] } else l

/-- READ_ABANDONED (R200). -/
def Link.abandonRead (l : Link) : Link := if l.readHold.isSome then { l with readHold := none, reply := [] } else l

/-- The byte the desk reads at place `k` of the reply (R200). -/
def Link.replyByte (l : Link) (k : Nat) : Byte := (l.reply[k]?).getD 255

/-- The port at a part reset (R194). -/
def Link.partReset (l : Link) : Link :=
  { l with assembly := none, overrun := false, outstanding := 0, readHold := none, reply := [] }

/-- The group byte: bits 0..3 mark groups 8..11 (11.2). -/
def Link.groupByte (l : Link) : Byte := bitsOf4 l.group8 l.group9 l.group10 l.group11
where
  bitsOf4 (a b c d : Bool) : Byte :=
    byte ((if a then 1 else 0) + (if b then 2 else 0) + (if c then 4 else 0) + if d then 8 else 0)

/-- SET_LINK (R206). -/
def cmdSetLink (t : Ticket) (station groups : Nat) (w : Work) : Work :=
  if 7 < station ∨ 15 < groups then w.answer t .badArgument []
  else
    let w := w.modLink fun l =>
      { l.abandonRead with
        station := station, group8 := groups.testBit 0, group9 := groups.testBit 1, group10 := groups.testBit 2
        group11 := groups.testBit 3, assembly := none }
    w.answer t .ok [byte station, byte groups]

/-- LINK_STATUS's fields (R207, log 6). -/
def linkStatusFields (l : Link) : List Byte :=
  [byte l.station, l.groupByte, Bool.code l.overrun, (match l.readSelect with | .status => 0 | .cursor => 1),
    byte l.cursor.table.num, byte l.cursor.index, byte l.cursor.field, Bool.code l.cursor.step] ++
  (match l.cursorResult with
   | some r => [1, (match r.op with | .set => 0 | .write => 1), byte r.table, byte r.index, byte r.field,
      Status.code r.status]
   | none => [0, 0, 0, 0, 0, 0]) ++
  (match l.requestResult with
   | some r => [Kind.code r.kind, Status.code r.status]
   | none => [255, 255]) ++
  [byte l.outstanding, byte l.formatErrors, Bool.code l.assembly.isSome, Bool.code l.readHold.isSome,
    optByte l.readHold]

/-- LINK_STATUS (R207). -/
def cmdLinkStatus (t : Ticket) (w : Work) : Work := w.answer t .ok (linkStatusFields w.st.link)

/-- CURSOR_SET at its STOP (R203). The last cursor result keeps the field byte as sent, step bit included (log 98). -/
def Link.cursorSet (l : Link) (table index field : Nat) : Link :=
  let place := field % 128
  let ok : Option CursorTable := match table with
    | 0 => if 1 ≤ index ∧ index ≤ 200 ∧ place < 7 then some .frame else none
    | 1 => if index ≤ 99 ∧ place < 4 then some .slotA else none
    | 2 => if index ≤ 99 ∧ place < 4 then some .slotB else none
    | 3 => if index = 0 ∧ place < 13 then some .position else none
    | _ => none
  let result (st : Status) : Option CursorResult :=
    some { op := .set, table := table, index := index, field := field, status := st }
  match ok with
  | some t =>
    { l with
      cursor := { table := t, index := index, field := place, step := decide (128 ≤ field) }
      cursorResult := result .ok, assembly := none }
  | none => { l with cursorResult := result .badArgument, assembly := none }

/-- A cursor write is recorded, with the place of the field alone (log 98), and the cursor steps (R203, R205). -/
def Work.cursorWritten (w : Work) (status : Status) : Work :=
  let c := w.st.link.cursor
  let next := w.st.stepCursor
  w.modLink fun l =>
    { l with
      cursor := next
      cursorResult := some { op := .write, table := c.table.num, index := c.index, field := c.field, status := status } }

/-- CURSOR_WRITE at its STOP (R205). -/
def Work.cursorWrite (w : Work) (edit : Bool) (lock : RangeLock) (value : Nat) : Work :=
  let w := w.modLink fun l => { l with assembly := none }
  let c := w.st.link.cursor
  if !edit then w.cursorWritten .noAuthority
  else match c.table with
    | .position => w.cursorWritten .badArgument
    | .frame =>
      match cursorFrameCheck lock w.st.pres c.index c.field value with
      | (.ok, some f) => (w.cursorFrame c.index c.field f).cursorWritten .ok
      | (st, _) => w.cursorWritten st
    | .slotA => slotWrite w .a c value
    | .slotB => slotWrite w .b c value
where
  slotWrite (w : Work) (d : DeckId) (c : Cursor) (value : Nat) : Work :=
    match cursorSlotCheck (w.deck d) c.index c.field value with
    | .ok => (w.cursorSlot d c.index value).cursorWritten .ok
    | st => w.cursorWritten st

/-- One millisecond of a held read (log 3). -/
def Link.tick (l : Link) : Link := { l with readHold := l.readHold.map fun n => n + 1 }

end Sys2Proof.Machine
end

