-- ==== Sys2Proof/Machine/Port.lean ====
section
/-! DEFINITION. The command port (10_command_port.md): records, the outgoing queue, the two rings, the host's
transactions and the notify causes; and how a step's work on the blocks reaches the state. -/

namespace Sys2Proof.Machine

/-! ## Records (11.2, R218) -/

/-- A record of 32 bytes; unused bytes read 00h. -/
def padRecord (bs : List Byte) : Record := (bs ++ List.replicate 32 0).take 32

/-- An event record; its lost count is written when it leaves the outgoing queue (R212). -/
def eventRecord (code : EventCode) (fields : List Byte) : Record := padRecord ([2, EventCode.code code, 0] ++ fields)

/-- How many records a response with `n` bytes of result fields takes (R218). -/
def runLength (n : Nat) : Nat := if n ≤ 28 then 1 else (n + 27) / 28

/-- Record `k` of a response's run: the response record, or a continuation with its place in the run, in which the
response record is the first (R218). -/
def responseRecord (code : Nat) (tag : Byte) (status : Status) (fields : List Byte) (k : Nat) : Record :=
  let part := (fields.drop (28 * k)).take 28
  if k = 0 then padRecord ([1, byte code, tag, Status.code status] ++ part)
  else padRecord ([3, byte code, tag, byte (k + 1)] ++ part)

/-- A response's run of records (R218). -/
def responseRun (code : Nat) (tag : Byte) (status : Status) (fields : List Byte) : List Record :=
  (List.range (runLength fields.length)).map (responseRecord code tag status fields)

/-- The records of the longest response a command code can give (R210, R218): SLOT_READ, FRAME_READ, GET_POSITION,
CUE_MAP_READ and TAPE_STATUS take two, ARBITER_STATUS five, every other command one. -/
def places (code : Nat) : Nat :=
  match code with
  | 0x10 => 2
  | 0x11 => 2
  | 0x39 => 2
  | 0x5A => 2
  | 0x5F => 2
  | 0x64 => 5
  | _ => 1

/-! ## The outgoing queue (R211, R212) -/

/-- The reserved count (R211). -/
def Port.reserved (p : Port) : Nat := (p.unanswered.map fun t => t.places).sum

/-- Admission of an event (R212). -/
def Port.admitEvent (p : Port) (r : Record) : Port :=
  if p.out.length + p.reserved < Config.outgoingPlaces then { p with out := p.out ++ [r] }
  else { p with lost := sat255 p.lost }

/-- A command is answered: its places are given back, and its run joins the tail in them (R211, log 33). A command that
is owed no answer has none. -/
def Port.deliverAnswer (p : Port) (t : Ticket) (status : Status) (fields : List Byte) : Port :=
  match p.unanswered.find? fun x => x.ticket.id == t.id with
  | none => p
  | some x =>
    { p with
      unanswered := p.unanswered.eraseP fun y => y.ticket.id == t.id
      out := p.out ++ (responseRun x.code x.ticket.tag status fields).take x.places }

/-- What a block hands to the port. -/
def Port.apply (p : Port) (e : Emit) : Port :=
  match e with
  | .event code fields => p.admitEvent (eventRecord code fields)
  | .answer t status fields => p.deliverAnswer t status fields

def Port.applyAll (p : Port) (es : List Emit) : Port := es.foldl Port.apply p

/-! ## Work on the blocks -/

/-- Run a step's work on the blocks: deliver the reports it raises, answer a held link read whose wait is over (R201),
and hand the records to the port. The requests it posts are left to the caller. -/
def State.runBlocks (f : Work → Work) (s : State) : State × List Post :=
  let w := Work.deliver deliverFuel (f (Work.start s.blk))
  ({ s with blk := w.st.settleRead, port := s.port.applyAll w.out }, w.posts)

/-! ## Notify causes and the port status (R208, R214, 11.1) -/

def Port.hostCmdSlots (p : Port) : Nat := p.cmd.countP fun x => !x.partOwned

def Port.filledSlots (p : Port) : Nat := p.rsp.countP fun x => !x.partOwned && x.filled

/-- The port summary (11.1). -/
def Port.summary (p : Port) : Byte :=
  byte ((if p.cmdSpace then 128 else 0) + (if p.rspReady then 64 else 0) + 8 * min 7 p.hostCmdSlots +
    min 7 p.filledSlots)

/-- The notify output (R214). -/
def Port.notify (p : Port) : Bool := p.cmdSpace || p.rspReady

/-- Eight flags as one byte, bit n for entry n. -/
def bitsOf (bs : List Bool) : Byte := byte (bs.foldr (fun b n => 2 * n + if b then 1 else 0) 0)

/-- The command code in a slot (11.2). -/
def slotByte (r : Record) (k : Nat) : Byte := (r[k]?).getD 0

/-- The slot at the take pointer, and its command code. -/
def Port.takeSlot (p : Port) : CmdSlot := (p.cmd[p.take.val]?).getD { bytes := zeroRecord, partOwned := false }

/-- The commands that need room in the CPORT queue (R210). -/
def needsQueue (code : Nat) : Bool := 0x30 ≤ code && code ≤ 0x33

/-- The outgoing queue can reserve the places of a command (R210). -/
def Port.canReserve (p : Port) (code : Nat) : Bool :=
  decide (p.out.length + p.reserved + places code ≤ Config.outgoingPlaces)

/-- The CPORT queue has room for a command that needs it (R210). -/
def Arbiter.hasRoom (a : Arbiter) (code : Nat) : Bool := !needsQueue code || decide (a.cport.length < 4)

/-- The conditions of R210 but for the slot's owner. -/
def State.takeable (s : State) (code : Nat) : Bool := s.port.canReserve code && s.arb.hasRoom code

/-- The stall and its cause (R210, R214; both causes at once: log 31). -/
def State.stall (s : State) : Byte :=
  let code := (slotByte s.port.takeSlot.bytes 0).toNat
  if !s.port.takeSlot.partOwned then 0
  else if !s.port.canReserve code then 1
  else if !s.arb.hasRoom code then 2
  else 0

/-- The ten bytes of the port status (11.1). -/
def State.portStatus (s : State) : List Byte :=
  let p := s.port
  [bitsOf (p.cmd.map fun x => x.partOwned), byte (16 * p.give.val + p.take.val), s.stall,
    bitsOf (p.rsp.map fun x => x.partOwned), bitsOf (p.rsp.map fun x => x.filled), byte (16 * p.fill.val + p.ret.val),
    byte p.out.length, byte p.reserved, byte p.lost,
    byte ((if p.cmdSpace then 2 else 0) + if p.rspReady then 1 else 0)]

/-! ## Transactions (R208, R209, R213, R214) -/

/-- WRITE_CMD_SLOT (R209); fewer than 32 bytes are a transaction cut short (R208). -/
def Port.writeCmdSlot (p : Port) (slot : Nat) (bytes : List Byte) : Port :=
  let q := { p with dataOut := p.summary :: List.replicate (bytes.length + 1) 0 }
  match p.cmd[slot]? with
  | some x => if bytes.length = 32 ∧ !x.partOwned then { q with cmd := p.cmd.set slot { x with bytes := bytes } } else q
  | none => q

/-- GIVE_CMD (R209). -/
def Port.giveCmd (p : Port) : Port :=
  let q := { p with dataOut := [p.summary] }
  match p.cmd[p.give.val]? with
  | some x =>
    if x.partOwned then q
    else { q with
      cmd := p.cmd.set p.give.val { x with partOwned := true }, give := p.give + 1
      lastNotify := (slotByte x.bytes 2).getLsbD 0 }
  | none => q

/-- RETURN_RSP (R213). -/
def Port.returnRsp (p : Port) : Port :=
  let q := { p with dataOut := [p.summary] }
  match p.rsp[p.ret.val]? with
  | some x =>
    if x.partOwned then q
    else { q with rsp := p.rsp.set p.ret.val { x with partOwned := true, filled := false }, ret := p.ret + 1 }
  | none => q

/-- READ_PORT_STATUS (R214). -/
def State.readPortStatus (s : State) : State :=
  { s with port := { s.port with dataOut := s.port.summary :: s.portStatus, cmdSpace := false, rspReady := false } }

/-- What READ_RSP_SLOT shifts out (R208, R213, R220): the port summary, 00h while the slot index comes in, then the 32
bytes of a filled host-owned slot, or FFh. It changes no record (log 34). -/
def Port.readRspSlot (p : Port) (slot : Nat) : List Byte :=
  p.summary :: 0 ::
    match p.rsp[slot]? with
    | some x => if !x.partOwned && x.filled then x.bytes else List.replicate 32 255
    | none => List.replicate 32 255

/-- The lost count is written into an event record (R212). -/
def stampLost (r : Record) (lost : Nat) : Record := if slotByte r 0 = 2 then r.set 2 (byte lost) else r

/-- RECORD_TO_RESPONSE_RING is due (R213). -/
def Port.moveDue (p : Port) : Bool :=
  !p.out.isEmpty && (match p.rsp[p.fill.val]? with | some x => x.partOwned | none => false)

/-- RECORD_TO_RESPONSE_RING (R212 to R214). -/
def Port.moveRecord (p : Port) : Port :=
  if p.moveDue then
    match p.out with
    | [] => p
    | r :: rest =>
      { p with
        out := rest
        rsp := p.rsp.set p.fill.val { bytes := stampLost r p.lost, partOwned := false, filled := true }
        fill := p.fill + 1
        lost := if slotByte r 0 = 2 then 0 else p.lost
        rspReady := p.rspReady || p.filledSlots == 0 }
  else p

/-- The port at either reset (R217). -/
def Port.clear (p : Port) : Port :=
  { p with
    cmd := p.cmd.map fun x => { x with partOwned := false }
    rsp := p.rsp.map fun x => { x with partOwned := false, filled := false }
    give := 0, take := 0, fill := 0, ret := 0, out := [], unanswered := [], lost := 0
    cmdSpace := false, rspReady := false }

/-- A command is taken: its places are reserved (R210, R211). -/
def Port.reserve (p : Port) (code : Nat) (tag : Byte) : Port :=
  { p with
    unanswered := p.unanswered ++ [{ ticket := { id := p.nextId, tag := tag }, code := code, places := places code }]
    nextId := p.nextId + 1 }

/-- The ticket of the next command taken. -/
def Port.nextTicket (p : Port) (tag : Byte) : Ticket := { id := p.nextId, tag := tag }

/-- The slot at the take pointer is returned to the host (R210, R214). -/
def Port.releaseSlot (p : Port) : Port :=
  { p with
    cmd := p.cmd.set p.take.val { p.takeSlot with partOwned := false }
    take := p.take + 1
    cmdSpace := p.cmdSpace || (p.hostCmdSlots == 0 && p.lastNotify) }

end Sys2Proof.Machine
end

