-- ==== Sys2Proof/Machine/Arbiter.lean ====
section
/-! DEFINITION. The request arbiter (07_request_sources_and_arbitration.md): admission, grant opportunities, pending
tables and its commands; and how a step's posts reach it. -/

namespace Sys2Proof.Machine

/-! ## Admission (R172) -/

/-- The show mode admits the source (R75). -/
def modeAdmits (m : Mode) (s : Source) : Bool :=
  match s, m with
  | .cue, .show => true
  | .cue, _ => false
  | _, _ => true

def AuthorityTable.row (t : AuthorityTable) : Source → Authority
  | .cport => t.cport
  | .link => t.link
  | .remote => t.remote
  | .cue => t.cue

def AuthorityTable.setRow (t : AuthorityTable) (s : Source) (a : Authority) : AuthorityTable :=
  match s with
  | .cport => { t with cport := a }
  | .link => { t with link := a }
  | .remote => { t with remote := a }
  | .cue => { t with cue := a }

/-- The source holds the authority class of the kind (R172, R179). -/
def AuthorityTable.allows (t : AuthorityTable) (s : Source) (k : Kind) : Bool :=
  if k.isMotion then (t.row s).motion else (t.row s).level

/-- The first two checks of admission (R172). -/
def Arbiter.refusal (a : Arbiter) (m : Mode) (s : Source) (k : Kind) : Option Status :=
  if !modeAdmits m s then some .wrongMode
  else if !a.authority.allows s k then some .noAuthority
  else none

/-- R171. -/
def capacity : Source → Nat
  | .cport => 4
  | .link => 4
  | .remote => 2
  | .cue => 8

def Arbiter.queue (a : Arbiter) : Source → List Request
  | .cport => a.cport
  | .link => a.link
  | .remote => a.remote
  | .cue => a.cue

def Arbiter.setQueue (a : Arbiter) (s : Source) (q : List Request) : Arbiter :=
  match s with
  | .cport => { a with cport := q }
  | .link => { a with link := q }
  | .remote => { a with remote := q }
  | .cue => { a with cue := q }

/-- The arbiter's answer to a posted request (R172). -/
inductive Admission where
  | queued | full
  | refused (status : Status)
  deriving DecidableEq, Repr

/-- REQUEST_ADMISSION (R172). -/
def Arbiter.enqueue (a : Arbiter) (m : Mode) (r : Request) : Admission × Arbiter :=
  match a.refusal m r.source r.kind with
  | some st => (.refused st, a)
  | none =>
    let q := a.queue r.source
    if q.length < capacity r.source then (.queued, a.setQueue r.source (q ++ [r])) else (.full, a)

/-! ## A step's work -/

/-- The cue kind a lost CUE request is reported by (R154): DARK comes from END alone; a CHASE always finds room. -/
def cueKindOfRequest : Kind → CueKind
  | .advance => .advance
  | .reverse => .reverse
  | .goto => .goto
  | .cut => .cut
  | .dissolve => .dissolve
  | .level => .level
  | .dark => .fin
  | .chase => .goto

/-- The tape unit's post and its answer (R154, R174). -/
def State.takePost (s : State) (p : Post) : State :=
  match p with
  | .flush => { s with arb := { s.arb with cue := [] } }
  | .request kind arg =>
    let (a, arb) := s.arb.enqueue s.blk.pres.mode { source := .cue, kind := kind, arg := arg, ticket := none }
    let s := { s with arb := arb }
    match a with
    | .queued => s
    | .refused _ => (s.runBlocks Work.cueLost).1
    | .full =>
      (s.runBlocks fun w => w.cueLost.event .cueOverflow
        (CueKind.code (cueKindOfRequest kind) :: word w.st.tape.count)).1

/-- Run a step's work: the blocks, the records they hand to the port, then the tape unit's posts, whose CUE_OVERFLOW so
joins after the step's other records (log 92). -/
def State.run (f : Work → Work) (s : State) : State :=
  let r := s.runBlocks f
  r.2.foldl State.takePost r.1

/-! ## Grant opportunities (R175 to R178) -/

def Arbiter.hasPending (a : Arbiter) : Bool :=
  a.pendingPhases.isSome || a.pendingAuthority.isSome || a.pendingLock.isSome

/-- Some phase names a source whose queue holds an entry. -/
def Arbiter.hasNamed (a : Arbiter) : Bool :=
  a.phases.any fun p => match p with
    | some s => !(a.queue s).isEmpty
    | none => false

/-- The controller is ready and the encoder hold is off (R175). -/
def State.open (s : State) : Bool := s.blk.pres.ready && !s.blk.encoderHold

/-- A grant opportunity that can grant or activate something is due (R175). -/
def State.grantDue (s : State) : Bool := s.open && (s.arb.hasPending || s.arb.hasNamed)

/-- The result fields of SET_AUTHORITY (R183): the source, then its row (log 95). -/
def authorityBytes (src : Source) (a : Authority) : List Byte :=
  [Source.code src, Bool.code a.motion, Bool.code a.level, Bool.code a.edit, Bool.code a.tape]

def lockBytes (l : RangeLock) : List Byte := [byte l.lo, byte l.hi, Bool.code l.invert]

/-- The tables once their pending copies are active; a new phase table sets the pointer to 0 (R177, R178). -/
def Arbiter.activated (a : Arbiter) : Arbiter :=
  { a with
    phases := match a.pendingPhases with | some p => p.table | none => a.phases
    pointer := match a.pendingPhases with | some _ => 0 | none => a.pointer
    authority := match a.pendingAuthority with | some p => p.table | none => a.authority
    lock := match a.pendingLock with | some p => p.lock | none => a.lock
    pendingPhases := none, pendingAuthority := none, pendingLock := none }

/-- The answers of the commands that wait on the pending copies (R178, R182 to R184), table by table (log 81), those of
one authority table in the order taken (log 96). -/
def Arbiter.activationAnswers (a : Arbiter) : List Emit :=
  (match a.pendingPhases with
   | some p => [.answer p.ticket .ok (p.table.map phaseCode)]
   | none => []) ++
  (match a.pendingAuthority with
   | some p => p.waiting.map fun x => .answer x.ticket .ok (authorityBytes x.source (p.table.row x.source))
   | none => []) ++
  (match a.pendingLock with
   | some p => [.answer p.ticket .ok (lockBytes p.lock)]
   | none => [])

/-- TABLE_ACTIVATION (R178). -/
def State.activate (s : State) : State :=
  { s with arb := s.arb.activated, port := s.port.applyAll s.arb.activationAnswers }

/-- The heads that the re-check discards, with their statuses, and the queue behind them (R177). -/
def Arbiter.discards (a : Arbiter) (m : Mode) : List Request → List (Request × Status) × List Request
  | [] => ([], [])
  | r :: q =>
    match a.refusal m r.source r.kind with
    | some st => let (ds, rest) := a.discards m q; ((r, st) :: ds, rest)
    | none => ([], r :: q)

/-- The scan from phase `i` over `n` phases: the discards, the granted request if any, and the arbiter after it, its
pointer at the phase after the winning one (R177). -/
def Arbiter.scan (m : Mode) : Nat → Nat → Arbiter → List (Request × Status) × Option Request × Arbiter
  | 0, _, a => ([], none, a)
  | n + 1, i, a =>
    match (a.phases[i]?).join with
    | none => Arbiter.scan m n ((i + 1) % 16) a
    | some src =>
      let (ds, rest) := a.discards m (a.queue src)
      match rest with
      | [] =>
        let (ds', g, a') := Arbiter.scan m n ((i + 1) % 16) (a.setQueue src [])
        (ds ++ ds', g, a')
      | r :: q => (ds, some r, { a.setQueue src q with pointer := (i + 1) % 16 })

/-- A request discarded at the re-check is answered to its source (R173, R177). -/
def Work.answerDiscard (w : Work) (x : Request × Status) : Work :=
  match x.1.source with
  | .cport => w.answerOpt x.1.ticket x.2
  | .link => w.linkEnded x.1 x.2
  | .remote => w.remoteRefused (keyOfKind x.1.kind) (Status.code x.2)
  | .cue => w.cueLost

/-- The blocks' part of a scan: the discards, then the grant. -/
def Work.grantScan (w : Work) (ds : List (Request × Status)) (g : Option Request) : Work :=
  let w := ds.foldl Work.answerDiscard w
  match g with
  | some r => w.grant r
  | none => w

/-- GRANT_OPPORTUNITY (R177). -/
def State.grantOpportunity (s : State) : State :=
  if s.grantDue then
    let s := s.activate
    let (ds, g, arb) := Arbiter.scan s.blk.pres.mode 16 s.arb.pointer s.arb
    ({ s with arb := arb }).run fun w => w.grantScan ds g
  else s

/-- A pending copy loaded while the controller is ready and the hold is off makes a grant opportunity at that event: it
becomes active, and the queues are scanned with it (R175, R177, R178). -/
def State.activateIfOpen (s : State) : State := if s.open then s.activate.grantOpportunity else s

/-! ## Commands (R182 to R186) -/

/-- Answer a command from the state. -/
def State.answer (s : State) (t : Ticket) (status : Status) (fields : List Byte) : State :=
  { s with port := s.port.apply (.answer t status fields) }

/-- The values of a list when each names one. -/
def allSome {α : Type} : List (Option α) → Option (List α)
  | [] => some []
  | none :: _ => none
  | some x :: xs => (allSome xs).map fun ys => x :: ys

/-- SET_PHASES (R182). -/
def cmdSetPhases (t : Ticket) (phases : List Byte) (s : State) : State :=
  if s.arb.held then s.answer t .locked []
  else match allSome (phases.map phaseOf) with
    | none => s.answer t .badArgument []
    | some table =>
      if !table.contains (some .cport) then s.answer t .badArgument []
      else
        let s' := match s.arb.pendingPhases with
          | some p => s.answer p.ticket .aborted []
          | none => s
        ({ s' with arb := { s'.arb with pendingPhases := some { table := table, ticket := t } } }).activateIfOpen

/-- SET_AUTHORITY (R183). -/
def cmdSetAuthority (t : Ticket) (source motion level edit tape : Byte) (s : State) : State :=
  if s.arb.held then s.answer t .locked []
  else match sourceOf source, onOff motion, onOff level, onOff edit, onOff tape with
    | some src, some m, some l, some e, some p =>
      if src = .cport ∨ (e ∧ src ≠ .link) then s.answer t .badArgument []
      else
        let row : Authority := { motion := m, level := l, edit := e, tape := p }
        let (table, waiting) := match s.arb.pendingAuthority with
          | some x => (x.table, x.waiting)
          | none => (s.arb.authority, [])
        let pending : PendingAuthority :=
          { table := table.setRow src row, waiting := waiting ++ [{ ticket := t, source := src }] }
        ({ s with arb := { s.arb with pendingAuthority := some pending } }).activateIfOpen
    | _, _, _, _, _ => s.answer t .badArgument []

/-- SET_RANGE_LOCK (R180, R184). -/
def rangeLockOf (lo hi invert : Byte) : Option RangeLock :=
  if lo.toNat = 0 then some { lo := 0, hi := 0, invert := false }
  else if 200 < lo.toNat ∨ hi.toNat < lo.toNat ∨ 200 < hi.toNat then none
  else (onOff invert).map fun b => { lo := lo.toNat, hi := hi.toNat, invert := b }

/-- SET_RANGE_LOCK (R184). -/
def cmdSetRangeLock (t : Ticket) (lo hi invert : Byte) (s : State) : State :=
  if s.arb.held then s.answer t .locked []
  else match rangeLockOf lo hi invert with
    | none => s.answer t .badArgument []
    | some l =>
      let s' := match s.arb.pendingLock with
        | some p => s.answer p.ticket .aborted []
        | none => s
      ({ s' with arb := { s'.arb with pendingLock := some { lock := l, ticket := t } } }).activateIfOpen

/-- SET_LOCK_HOLD (R185). -/
def cmdSetLockHold (t : Ticket) (on : Byte) (s : State) : State :=
  if s.arb.held then s.answer t .locked []
  else match onOff on with
    | none => s.answer t .badArgument []
    | some b => ({ s with arb := { s.arb with lockHold := b } }).answer t .ok []

def queueBytes (q : List Request) : List Byte := byte q.length :: q.flatMap Request.bytes

def tableBytes (t : AuthorityTable) : List Byte :=
  [t.cport, t.link, t.remote, t.cue].flatMap fun a =>
    [Bool.code a.motion, Bool.code a.level, Bool.code a.edit, Bool.code a.tape]

/-- ARBITER_STATUS's fields (R186). -/
def arbiterFields (s : State) : List Byte :=
  let a := s.arb
  queueBytes a.cport ++ queueBytes a.link ++ queueBytes a.remote ++ queueBytes a.cue ++
  a.phases.map phaseCode ++ [byte a.pointer] ++
  (match a.pendingPhases with | some p => p.table.map phaseCode | none => List.replicate 16 255) ++
  tableBytes a.authority ++
  (match a.pendingAuthority with | some p => tableBytes p.table | none => List.replicate 16 255) ++
  lockBytes a.lock ++
  (match a.pendingLock with | some p => lockBytes p.lock | none => List.replicate 3 255) ++
  [Bool.code a.lockHold, Bool.code a.key, Bool.code a.held, Bool.code s.blk.encoderHold, Bool.code s.blk.pres.ready]

/-- ARBITER_STATUS (R186). -/
def cmdArbiterStatus (t : Ticket) (s : State) : State := s.answer t .ok (arbiterFields s)

/-- The arbiter at a part reset (R171, R174, R177 to R181). -/
def Arbiter.partReset (a : Arbiter) : Arbiter :=
  { a with
    cport := [], link := [], remote := [], cue := [], pointer := 0, pendingPhases := none, pendingAuthority := none
    pendingLock := none }

end Sys2Proof.Machine
end

