-- ==== Sys2Proof/Machine/Sources.lean ====
section
/-! DEFINITION. The hand remote (08_hand_remote.md) and the pair link's write frames at their STOP (R198, R199): what
turns keys and frames into requests. -/

namespace Sys2Proof.Machine

/-! ## Held keys (R188, R190) -/

/-- Only ADVANCE and REVERSE repeat (R190). -/
def keyRepeats : Key → Bool
  | .advance | .reverse => true
  | _ => false

def Remote.heldKey (r : Remote) : HeldInput → Option HeldKey
  | .ir => r.ir
  | .fwd => r.fwd
  | .rev => r.rev

def Remote.setHeld (r : Remote) (i : HeldInput) (k : Option HeldKey) : Remote :=
  match i with
  | .ir => { r with ir := k }
  | .fwd => { r with fwd := k }
  | .rev => { r with rev := k }

def State.modRemote (s : State) (f : Remote → Remote) : State :=
  { s with blk := { s.blk with remote := f s.blk.remote } }

/-- A drop for want of room has been reported in this hold (R189). -/
def Remote.reported (r : Remote) (i : Option HeldInput) : Bool :=
  match i with
  | some i => match r.heldKey i with
    | some k => k.repeats && k.dropReported
    | none => false
  | none => false

def Remote.markReported (r : Remote) (i : Option HeldInput) : Remote :=
  match i with
  | some i => r.setHeld i ((r.heldKey i).map fun k => { k with dropReported := true })
  | none => r

/-! ## Keys (R189, R191, R192) -/

/-- Post a request of the hand remote; `input` is the held-key record its drops are reported in (R189). -/
def State.postRemote (s : State) (key : Key) (kind : Kind) (arg : Option Nat) (input : Option HeldInput) : State :=
  let (a, arb) := s.arb.enqueue s.blk.pres.mode { source := .remote, kind := kind, arg := arg, ticket := none }
  let s := { s with arb := arb }
  match a with
  | .queued => s
  | .refused st => s.run fun w => w.remoteRefused key (Status.code st)
  | .full =>
    if s.blk.remote.reported input then s
    else (s.modRemote fun r => r.markReported input).run fun w =>
      w.remoteRefused key (Config.unplacedCode .reasonFull)

/-- The PAUSE key (R145, R189). -/
def State.remotePause (s : State) : State :=
  let t := s.blk.tape
  let resumes := match t.transport with
    | .paused _ => true
    | _ => false
  let refusal :=
    if !s.arb.authority.remote.tape then some .noAuthority
    else if resumes then t.resumeRefusal
    else t.pauseRefusal
  match refusal with
  | some st => s.run fun w => w.remoteRefused .pause (Status.code st)
  | none => s.run fun w => if resumes then w.resumeTape none else w.pauseTape none

/-- The value of the digit buffer (R191). -/
def digitValue (ds : List (Fin 10)) : Nat := ds.foldl (fun n d => 10 * n + d.val) 0

/-- A digit joins the buffer; the oldest of three leaves it first (R191). -/
def pushDigit (ds : List (Fin 10)) (d : Fin 10) : List (Fin 10) := (if ds.length < 3 then ds else ds.drop 1) ++ [d]

def Remote.clearDigits (r : Remote) : Remote := { r with digits := [], entryTimer := none }

/-- A press of ADVANCE, REVERSE, DARK or PAUSE restarts the entry timer while digits are held (R191). -/
def Remote.touchEntry (r : Remote) : Remote :=
  if r.digits = [] then r else { r with entryTimer := some Config.entryTimerMs }

/-- GO (R191). -/
def State.remoteGo (s : State) : State :=
  let v := digitValue s.blk.remote.digits
  let named := s.blk.remote.digits ≠ [] ∧ 1 ≤ v ∧ v ≤ 200
  let s := s.modRemote Remote.clearDigits
  if named then s.postRemote .go .goto (some v) none
  else s.run fun w => w.remoteRefused .go (Config.unplacedCode .reasonEntry)

/-- The action of a key (R189). -/
def State.keyAction (s : State) (key : Key) (input : Option HeldInput) : State :=
  match key with
  | .advance => (s.modRemote Remote.touchEntry).postRemote .advance .advance none input
  | .reverse => (s.modRemote Remote.touchEntry).postRemote .reverse .reverse none input
  | .dark => (s.modRemote Remote.touchEntry).postRemote .dark .dark (some 2) none
  | .pause => (s.modRemote Remote.touchEntry).remotePause
  | .digit d => s.modRemote fun r =>
      { r with digits := pushDigit r.digits d, entryTimer := some Config.entryTimerMs }
  | .go => s.remoteGo
  | .clear => s.modRemote Remote.clearDigits
  | .other => s

/-- A press acts as WAKE (R192). -/
def State.wakes (s : State) : Bool := s.blk.lcu.power == .standby && s.arb.authority.remote.level

/-- A press: the key is held, and acts, or wakes and then repeats nothing (R189, R192). -/
def State.press (s : State) (key : Key) (input : Option HeldInput) : State :=
  let wakes := s.wakes
  let k : HeldKey :=
    { key := key, repeats := keyRepeats key && !wakes, left := Config.firstRepeatMs, dropReported := false }
  let s := match input with
    | some i => s.modRemote fun r => r.setHeld i (some k)
    | none => s
  if wakes then s.run Work.wake else s.keyAction key input

/-! ## Remote events -/

/-- IR_FIRST_CODE (R188). -/
def State.irFirst (s : State) (channel : Nat) (key : Key) : State :=
  if s.blk.remote.irEnable ∧ channel = s.blk.remote.channel ∧ key ≠ .other then
    (s.modRemote fun r => { r with ir := none, irRelease := some Config.irReleaseMs }).press key (some .ir)
  else s

/-- IR_REPEAT_CODE (R188). -/
def Remote.irRepeat (r : Remote) (channel : Nat) : Remote :=
  if r.irEnable ∧ channel = r.channel ∧ r.ir.isSome then { r with irRelease := some Config.irReleaseMs } else r

/-- IR_RELEASE_TIMEOUT (R188). -/
def Remote.irRelease' (r : Remote) : Remote := if r.irRelease.isSome then { r with ir := none, irRelease := none } else r

/-- KEY_REPEAT (R190). -/
def State.keyRepeat (s : State) (i : HeldInput) : State :=
  match s.blk.remote.heldKey i with
  | some k =>
    if k.repeats then
      let s := s.modRemote fun r => r.setHeld i (some { k with left := Config.nextRepeatMs })
      match k.key with
      | .advance => s.postRemote .advance .advance none (some i)
      | .reverse => s.postRemote .reverse .reverse none (some i)
      | _ => s
    else s
  | none => s

/-- ENTRY_TIMER_EXPIRY (R191). -/
def Remote.entryExpiry (r : Remote) : Remote := if r.entryTimer.isSome then r.clearDigits else r

def Remote.line (r : Remote) : Line → Bool
  | .fwd => r.fwdActive
  | .rev => r.revActive
  | .dark => r.darkActive

def Remote.setLine (r : Remote) (l : Line) (b : Bool) : Remote :=
  match l with
  | .fwd => { r with fwdActive := b }
  | .rev => { r with revActive := b }
  | .dark => { r with darkActive := b }

/-- WIRED_LINE_PRESS (R187). -/
def State.linePress (s : State) (l : Line) : State :=
  let was := s.blk.remote.line l
  let s := s.modRemote fun r => r.setLine l true
  if was || !s.blk.remote.wiredEnable then s
  else match l with
    | .fwd => s.press .advance (some .fwd)
    | .rev => s.press .reverse (some .rev)
    | .dark => (s.modRemote fun r => { r with darkHeld := true }).press .dark none

/-- The held mark of a line is dropped (R187). -/
def Remote.releaseLine (r : Remote) (l : Line) : Remote :=
  match l with
  | .fwd => { r with fwd := none }
  | .rev => { r with rev := none }
  | .dark => { r with darkHeld := false }

/-- WIRED_LINE_RELEASE (R187, R190). -/
def Remote.lineRelease (r : Remote) (l : Line) : Remote :=
  let r' := r.setLine l false
  if r.wiredEnable then r'.releaseLine l else r'

/-- SET_REMOTE's fields (R193): the settings, and the digit buffer in three places (log 97). -/
def remoteFields (r : Remote) : List Byte :=
  [Bool.code r.irEnable, Bool.code r.wiredEnable, byte r.channel] ++
    (r.digits.map (fun (d : Fin 10) => byte d.val) ++ List.replicate 3 255).take 3

/-- SET_REMOTE (R193). -/
def cmdSetRemote (t : Ticket) (ir wired : Byte) (channel : Nat) (w : Work) : Work :=
  match onOff ir, onOff wired with
  | some i, some b =>
    if 15 < channel then w.answer t .badArgument []
    else
      let w := w.modRemote fun r =>
        let r1 := if i ∧ channel = r.channel then r else { r with ir := none, irRelease := none }
        let r2 := if b then r1 else { r1 with fwd := none, rev := none, darkHeld := false }
        { r2 with irEnable := i, wiredEnable := b, channel := channel }
      w.answer t .ok (remoteFields w.st.remote)
  | _, _ => w.answer t .badArgument []

/-- The receiver at a part reset (R187, R193). -/
def Remote.partReset (r : Remote) : Remote :=
  { r with digits := [], entryTimer := none, ir := none, irRelease := none, fwd := none, rev := none, darkHeld := false }

def HeldKey.tick (k : HeldKey) : HeldKey := { k with left := k.left - 1 }

/-- One millisecond (log 3). -/
def Remote.tick (r : Remote) : Remote :=
  { r with
    entryTimer := tickOpt r.entryTimer, irRelease := tickOpt r.irRelease, ir := r.ir.map HeldKey.tick
    fwd := r.fwd.map HeldKey.tick, rev := r.rev.map HeldKey.tick }

/-! ## Write frames of the pair link at their STOP (R196, R198, R199) -/

def State.modLink (s : State) (f : Link → Link) : State := { s with blk := { s.blk with link := f s.blk.link } }

/-- The frame assembly is emptied. -/
def Link.dropFrame (l : Link) : Link := { l with assembly := none }

/-- Post a request of the link (R198). -/
def State.postLink (s : State) (kind : Kind) (arg : Option Nat) : State :=
  let r : Request := { source := .link, kind := kind, arg := arg, ticket := none }
  let (a, arb) := s.arb.enqueue s.blk.pres.mode r
  let s := { s with arb := arb }
  match a with
  | .queued => s.modLink fun l => { l with outstanding := l.outstanding + 1 }
  | .refused st =>
    (s.modLink fun l => { l with requestResult := some { kind := kind, status := st } }).run fun w =>
      w.event .linkRefused
        ([byte w.st.link.station, Kind.code kind] ++ presentByte arg ++ [Status.code st])
  | .full => s

/-- Run `f` at the STOP of a complete frame of request `code`; any other frame is not this row's. -/
def State.atStop (s : State) (code : Nat) (f : List Byte → State → State) : State :=
  match s.blk.link.completeFrame with
  | some (c :: args) => if c.toNat = code then f args (s.modLink Link.dropFrame) else s
  | _ => s

/-- The first argument byte of a frame. -/
def arg0 (args : List Byte) : Nat := ((args[0]?).getD 0).toNat

/-- LINK_ADVANCE (R198). -/
def State.linkAdvance (s : State) : State := s.atStop 1 fun _ s => s.postLink .advance none

/-- LINK_REVERSE (R198). -/
def State.linkReverse (s : State) : State := s.atStop 2 fun _ s => s.postLink .reverse none

/-- LINK_GOTO (R198). -/
def State.linkGoto (s : State) : State := s.atStop 3 fun args s => s.postLink .goto (some (arg0 args))

/-- LINK_DARK (R196, R198); an argument out of range is a frame to discard. -/
def State.linkDark (s : State) : State :=
  match s.blk.link.completeFrame with
  | some [_, v] => if v.toNat ≤ 2 then s.atStop 4 fun args s => s.postLink .dark (some (arg0 args)) else s
  | _ => s

/-- SELECT_READ (R196, R199). -/
def State.selectRead (s : State) : State :=
  match s.blk.link.completeFrame with
  | some [_, v] =>
    if v.toNat ≤ 1 then
      s.atStop 5 fun args s => s.modLink fun l => { l with readSelect := if arg0 args = 0 then .status else .cursor }
    else s
  | _ => s

/-- CURSOR_SET (R203). -/
def State.cursorSet (s : State) : State :=
  s.atStop 6 fun args s => s.run fun w => w.modLink fun l =>
    l.cursorSet (arg0 args) (arg0 (args.drop 1)) (arg0 (args.drop 2))

/-- CURSOR_WRITE (R205). -/
def State.cursorWrite (s : State) : State :=
  s.atStop 7 fun args s => s.run fun w => w.cursorWrite s.arb.authority.link.edit s.arb.lock (arg0 args)

/-- CLEAR_OVERRUN (R199). -/
def State.clearOverrun (s : State) : State := s.atStop 8 fun _ s => s.modLink fun l => { l with overrun := false }

/-- LINK_CODE_BYTE (R197). -/
def State.linkCodeByte (s : State) (v : Byte) : State :=
  s.run fun w => w.linkCodeByte v (decide (4 ≤ s.arb.link.length))

end Sys2Proof.Machine
end

