-- ==== Sys2Proof/Machine/Take.lean ====
section
/-! DEFINITION. Host commands from the command ring (R210, 11.2): which command a code names, its arguments, ABORT
(R216) and COMMAND_STATUS (R215), and the taking of a command. -/

namespace Sys2Proof.Machine

/-- Run a command on the blocks. -/
def onBlocks (f : Ticket → Work → Work) (t : Ticket) (s : State) : State := s.run (f t)

/-! ## Presentation commands (R101 to R103) -/

/-- A command of the CPORT queue; it always finds room (R172, R210). -/
def postCport (kind : Kind) (arg : Option Nat) (t : Ticket) (s : State) : State :=
  let r : Request := { source := .cport, kind := kind, arg := arg, ticket := some t }
  let (a, arb) := s.arb.enqueue s.blk.pres.mode r
  let s := { s with arb := arb }
  match a with
  | .refused st => s.answer t st []
  | _ => s

/-- ADVANCE (R101). -/
def cmdAdvance (t : Ticket) (s : State) : State := postCport .advance none t s

/-- REVERSE (R101). -/
def cmdReverse (t : Ticket) (s : State) : State := postCport .reverse none t s

/-- GOTO (R102). -/
def cmdGoto (frame : Nat) (t : Ticket) (s : State) : State :=
  if 200 < frame then s.answer t .badArgument [] else postCport .goto (some frame) t s

/-- DARK (R103). -/
def cmdDark (arg : Byte) (t : Ticket) (s : State) : State :=
  if darkArgOk arg then postCport .dark (some arg.toNat) t s else s.answer t .badArgument []

/-! ## Finding a command by its tag (R215) -/

/-- The earliest command taken before `t`, with the tag, that has not been answered (R215). -/
def State.findTagged (s : State) (t : Ticket) (tag : Byte) : Option Taken :=
  s.port.unanswered.find? fun x => x.ticket.tag == tag && x.ticket.id != t.id

/-- The place of a command in the CPORT queue (R215), the head's being 1 (log 99). -/
def State.queuePlace (s : State) (id : Nat) : Option Nat :=
  (s.arb.cport.findIdx? fun r => match r.ticket with | some x => x.id == id | none => false).map fun k => k + 1

/-- The operation of the deck runs for the command. -/
def Deck.runsFor (x : Deck) (id : Nat) : Option Operation :=
  match x.op? with
  | some op => match op.owner with
    | .host t => if t.id = id then some op else none
    | _ => none
  | none => none

/-- The phase of a deck command's operation: HOME during an automatic HOME (R215). -/
def operationPhase (op : Operation) : Byte :=
  if op.suspended.isSome then Config.unplacedCode .phaseHome else Phase.code op.phase

def hasTicket (ts : List Ticket) (id : Nat) : Bool := ts.any fun t => t.id == id

def Lamp.owes (l : Lamp) (id : Nat) : Bool := hasTicket l.onWaiting id || hasTicket l.offWaiting id

def optTicketIs (t : Option Ticket) (id : Nat) : Bool :=
  match t with
  | some t => t.id == id
  | none => false

/-- The phase a command's owner reports (R215). -/
def State.phaseOf (s : State) (id : Nat) : Byte :=
  let b := s.blk
  match b.deckA.runsFor id, b.deckB.runsFor id with
  | some op, _ => operationPhase op
  | none, some op => operationPhase op
  | none, none =>
    if (match b.pres.granted with | some r => optTicketIs r.ticket id | none => false) then PresState.code b.pres.state
    else if (match b.pres.edit with | .deferred _ _ _ t => t.id == id | _ => false) then
      Config.unplacedCode .phaseDeferred
    else if (match s.arb.pendingPhases with | some p => p.ticket.id == id | none => false) ||
        (match s.arb.pendingAuthority with | some p => hasTicket (p.waiting.map fun x => x.ticket) id | none => false) ||
        (match s.arb.pendingLock with | some p => p.ticket.id == id | none => false) then
      Config.unplacedCode .phasePending
    else if hasTicket b.lcu.standbyWaiting id then Power.code .cooldown
    else if b.lampA.owes id then LampState.code b.lampA.state
    else if b.lampB.owes id then LampState.code b.lampB.state
    else if hasTicket b.tape.pauseWaiting id then Config.unplacedCode .phasePausePending
    else if optTicketIs (b.tape.holding.bind fun c => c.ticket) id then 0
    else if optTicketIs (b.tape.writing.bind fun x => x.cue.ticket) id then 1
    else Transport.code b.tape.transport

/-- COMMAND_STATUS (R215): WAITING with the place, IN_PROGRESS with the phase, or NOT_FOUND. -/
def cmdCommandStatus (tag : Byte) (t : Ticket) (s : State) : State :=
  match s.findTagged t tag with
  | none => s.answer t .ok [2, 255]
  | some x => match s.queuePlace x.ticket.id with
    | some k => s.answer t .ok [0, byte k]
    | none => s.answer t .ok [1, s.phaseOf x.ticket.id]

/-! ## ABORT (R216) -/

/-- The owner's abort rule (R23, R55, R96, R97, R165); the other owners let their commands run. -/
def Work.abortOwned (w : Work) (id : Nat) : Work :=
  let b := w.st
  if (b.deckA.runsFor id).isSome then w.abortDeckOp .a
  else if (b.deckB.runsFor id).isSome then w.abortDeckOp .b
  else if (match b.pres.granted with | some r => optTicketIs r.ticket id | none => false) then w.abortGranted
  else if (match b.pres.edit with | .deferred _ _ _ t => t.id == id | _ => false) then w.abortCommit
  else w.abortInsert id

/-- Remove a command's entry from the CPORT queue (R174). -/
def Arbiter.removeCport (a : Arbiter) (id : Nat) : Arbiter :=
  { a with cport := a.cport.filter fun r => !optTicketIs r.ticket id }

/-- ABORT (R216): the aborted command's response joins before the ABORT's own. -/
def cmdAbort (tag : Byte) (t : Ticket) (s : State) : State :=
  match s.findTagged t tag with
  | none => s.answer t .notFound []
  | some x =>
    let s := match s.queuePlace x.ticket.id with
      | some _ => ({ s with arb := s.arb.removeCport x.ticket.id }).answer x.ticket .aborted []
      | none => s.run fun w => w.abortOwned x.ticket.id
    s.answer t .ok []

/-! ## The commands by their codes (11.2) -/

/-- Argument byte `k` of a command slot. -/
def arg (r : Record) (k : Nat) : Byte := slotByte r (3 + k)

/-- A two-byte argument, the most significant byte first. -/
def argWord (r : Record) (k : Nat) : Nat := (arg r k).toNat * 256 + (arg r (k + 1)).toNat

/-- The command a slot's bytes spell, run for its ticket; a code that names no command is answered BAD_ARGUMENT at once
(R210, R220). -/
def runCode (r : Record) (t : Ticket) (s : State) : State :=
  let a0 := arg r 0
  let a1 := arg r 1
  let a2 := arg r 2
  let a3 := arg r 3
  let a4 := arg r 4
  let n0 := a0.toNat
  let n1 := a1.toNat
  let n2 := a2.toNat
  match (slotByte r 0).toNat with
  | 0x10 => s.run (cmdSlotRead t a0 n1 n2)
  | 0x11 => s.run (cmdFrameRead t n0 n1)
  | 0x12 => s.run (cmdEditOpen t n0 n1)
  | 0x13 => s.run (cmdEditSet t n0 n1 n2)
  | 0x14 => s.run (cmdEditCommit s.arb.lock t n0)
  | 0x15 => s.run (cmdEditCancel t)
  | 0x16 => s.run (cmdSetFrameCount s.arb.lock t n0)
  | 0x17 => s.run (cmdLayout s.arb.lock t a0)
  | 0x20 => s.run (cmdDeckHome t a0)
  | 0x21 => s.run (cmdDeckCensus t a0)
  | 0x22 => s.run (cmdDeckRelease t a0)
  | 0x23 => s.run (cmdDeckService t a0 a1)
  | 0x24 => s.run (cmdDeckClear t a0)
  | 0x25 => s.run (cmdDeckStatus t a0)
  | 0x26 => s.run (cmdSetDeckOptions t a0 a1)
  | 0x28 => s.run (cmdSlotMark t a0 n1)
  | 0x29 => s.run (cmdSlotReload t a0 n1)
  | 0x2A => s.run (cmdCompareRead t)
  | 0x30 => cmdAdvance t s
  | 0x31 => cmdReverse t s
  | 0x32 => cmdGoto n0 t s
  | 0x33 => cmdDark a0 t s
  | 0x34 => s.run (cmdSetMode t a0)
  | 0x35 => s.run (cmdSetPairing t a0)
  | 0x36 => s.run (cmdSetLoop t n0 n1 a2)
  | 0x37 => s.run (cmdSetDefaultClass t n0)
  | 0x38 => s.run (cmdSetMasterLevel t n0)
  | 0x39 => s.run (cmdGetPosition t)
  | 0x40 => s.run (cmdLampOn t a0)
  | 0x41 => s.run (cmdLampOff t a0)
  | 0x42 => s.run (cmdLampReplaced t a0)
  | 0x43 => s.run (cmdLampStatus t a0)
  | 0x44 => s.run (cmdThermalRead t)
  | 0x45 => s.run (cmdStandby t)
  | 0x46 => s.run (cmdWake t)
  | 0x50 => s.run (cmdTapePlay t)
  | 0x51 => s.run (cmdTapeStop t)
  | 0x52 => s.run (cmdTapePause t)
  | 0x53 => s.run (cmdTapeResume t)
  | 0x54 => s.run (cmdTapeWind t a0)
  | 0x55 => s.run (cmdTapeZero t)
  | 0x56 => s.run (cmdSetCueOptions t a0 a1)
  | 0x57 => s.run (cmdCueTakeHeld s.arb.authority.cue.tape t)
  | 0x58 => s.run (cmdCueDiscardHeld t)
  | 0x59 => s.run (cmdCueInsert t a0 a1)
  | 0x5A => s.run (cmdCueMapRead t (argWord r 0) n2)
  | 0x5B => s.run (cmdCueMapLoad t (argWord r 0) n2 a3.toNat a4.toNat (arg r 5).toNat)
  | 0x5C => s.run (cmdCueMapClear t)
  | 0x5D => s.run (cmdSoundLevel t a0)
  | 0x5E => s.run (cmdSoundMute t a0)
  | 0x5F => s.run (cmdTapeStatus t)
  | 0x60 => cmdSetPhases t ((r.drop 3).take 16) s
  | 0x61 => cmdSetAuthority t a0 a1 a2 a3 a4 s
  | 0x62 => cmdSetRangeLock t a0 a1 a2 s
  | 0x63 => cmdSetLockHold t a0 s
  | 0x64 => cmdArbiterStatus t s
  | 0x68 => s.run (cmdSetRemote t a0 a1 n2)
  | 0x6A => s.run (cmdSetLink t n0 n1)
  | 0x6B => s.run (cmdLinkStatus t)
  | 0x70 => cmdAbort a0 t s
  | 0x71 => cmdCommandStatus a0 t s
  | _ => s.answer t .badArgument []

/-! ## Taking (R210) -/

/-- A command of code `code` is taken with its tag: its places are reserved and `f` runs for its ticket. -/
def State.take (s : State) (code : Nat) (tag : Byte) (f : Ticket → State → State) : State :=
  f (s.port.nextTicket tag) { s with port := s.port.reserve code tag }

/-- A host command that reaches the part other than by the ring: it is taken when R210 lets a command of its code be
taken, and else nothing happens (log 1). -/
def State.takeDirect (s : State) (code : Nat) (tag : Byte) (f : Ticket → State → State) : State :=
  if s.takeable code then s.take code tag f else s

/-- TAKE_COMMAND is due (R210). -/
def State.takeDue (s : State) : Bool :=
  s.port.takeSlot.partOwned && s.takeable (slotByte s.port.takeSlot.bytes 0).toNat

/-- TAKE_COMMAND (R210). -/
def State.takeCommand (s : State) : State :=
  if s.takeDue then
    let r := s.port.takeSlot.bytes
    ({ s with port := s.port.releaseSlot }).take (slotByte r 0).toNat (slotByte r 1) (runCode r)
  else s

end Sys2Proof.Machine
end

