-- ==== Sys2Proof/Machine/Reset.lean ====
section
/-! DEFINITION. The two resets of the whole part (R217, with the reset rules of every block). -/

namespace Sys2Proof.Machine

/-- The records that a part reset writes without a report between blocks (R12, R170, R193, R194). -/
def Blocks.partReset (b : Blocks) : Blocks :=
  { b with
    pres := b.pres.partReset, tape := b.tape.partReset, remote := b.remote.partReset, link := b.link.partReset }

/-- What a part reset does to the lamps and the decks (R112, R46); the lamps go first, so that a deck finds its lamp
at 0. -/
def Work.resetDrives (w : Work) : Work := (w.resetLcu.resetDeck .a).resetDeck .b

/-- PART_RESET (R217): the port is cleared first, so no command taken before it is answered. -/
def State.partReset (s : State) : State :=
  let cleared : State :=
    { s with
      port := { s.port.clear with dataOut := [s.port.summary] }
      arb := s.arb.partReset
      blk := s.blk.partReset }
  cleared.run Work.resetDrives

/-- Every block but the port and the arbiter at a power-on reset, with the sensors and lines as they stand. -/
def Blocks.powerOn (b : Blocks) : Blocks where
  deckA := b.deckA.powerOn
  deckB := b.deckB.powerOn
  lampA := Lamp.reset
  lampB := Lamp.reset
  lcu := Lcu.reset
  pres := Pres.reset
  tape := Tape.reset b.tape.present b.tape.leaderMade
  remote := Remote.reset b.remote.fwdActive b.remote.revActive b.remote.darkActive
  link := Link.reset

/-- POWER_ON_RESET (R217). -/
def State.powerOnReset (s : State) : State :=
  { s with port := s.port.clear, arb := Arbiter.reset s.arb.key, blk := s.blk.powerOn }

end Sys2Proof.Machine
end

