-- ==== Sys2Proof/Machine/PortRows.lean ====
section
/-! DEFINITION. Meanings of rows: the port's transactions, the resets, the port's own steps, ABORT and COMMAND_STATUS (10_command_port.md). -/

namespace Sys2Proof.Machine

/-- WRITE_CMD_SLOT (R209); more than 32 bytes are no such transaction (log 12). -/
def execWriteCmdSlot (slot : Byte) (bytes : List Byte) (s : State) : Host.Outcome State Fault Refusal :=
  if writeBytesOk bytes then .next { s with port := s.port.writeCmdSlot slot.toNat bytes } else .fault .illFormed

/-- GIVE_CMD (R209). -/
def execGiveCmd (s : State) : Host.Outcome State Fault Refusal :=
  .next { s with port := s.port.giveCmd }

/-- RETURN_RSP (R213). -/
def execReturnRsp (s : State) : Host.Outcome State Fault Refusal :=
  .next { s with port := s.port.returnRsp }

/-- READ_PORT_STATUS (R214). -/
def execReadPortStatus (s : State) : Host.Outcome State Fault Refusal :=
  .next (s.readPortStatus)

/-- PART_RESET (R217). -/
def execPartReset (s : State) : Host.Outcome State Fault Refusal :=
  .next (s.partReset)

/-- POWER_ON_RESET (R217). -/
def execPowerOnReset (s : State) : Host.Outcome State Fault Refusal :=
  .next (s.powerOnReset)

/-- TAKE_COMMAND (R210). -/
def execTakeCommand (s : State) : Host.Outcome State Fault Refusal :=
  .next (s.takeCommand)

/-- RECORD_TO_RESPONSE_RING (R213). -/
def execRecordToResponseRing (s : State) : Host.Outcome State Fault Refusal :=
  .next { s with port := s.port.moveRecord }

/-- ABORT (R216). -/
def execAbort (tag target : Byte) (s : State) : Host.Outcome State Fault Refusal :=
  .next (s.takeDirect 0x70 tag fun t s => cmdAbort target t s)

/-- COMMAND_STATUS (R215). -/
def execCommandStatus (tag target : Byte) (s : State) : Host.Outcome State Fault Refusal :=
  .next (s.takeDirect 0x71 tag fun t s => cmdCommandStatus target t s)

end Sys2Proof.Machine
end

