-- ==== Sys2Proof/Machine/ShowRecordRows.lean ====
section
/-! DEFINITION. Meanings of rows: the host commands on tray maps, the frame table, the edit buffer and the census compare (01, 03). -/

namespace Sys2Proof.Machine

/-- SLOT_READ (R4). -/
def execSlotRead (tag deck first n : Byte) (s : State) : Host.Outcome State Fault Refusal :=
  .next (s.takeDirect 0x10 tag fun t s => s.run (cmdSlotRead t deck first.toNat n.toNat))

/-- FRAME_READ (R8). -/
def execFrameRead (tag first n : Byte) (s : State) : Host.Outcome State Fault Refusal :=
  .next (s.takeDirect 0x11 tag fun t s => s.run (cmdFrameRead t first.toNat n.toNat))

/-- EDIT_OPEN (R20). -/
def execEditOpen (tag first n : Byte) (s : State) : Host.Outcome State Fault Refusal :=
  .next (s.takeDirect 0x12 tag fun t s => s.run (cmdEditOpen t first.toNat n.toNat))

/-- EDIT_SET (R21). -/
def execEditSet (tag index field value : Byte) (s : State) : Host.Outcome State Fault Refusal :=
  .next (s.takeDirect 0x13 tag fun t s => s.run (cmdEditSet t index.toNat field.toNat value.toNat))

/-- EDIT_COMMIT (R22). -/
def execEditCommit (tag target : Byte) (s : State) : Host.Outcome State Fault Refusal :=
  .next (s.takeDirect 0x14 tag fun t s => s.run (cmdEditCommit s.arb.lock t target.toNat))

/-- EDIT_CANCEL (R24). -/
def execEditCancel (tag : Byte) (s : State) : Host.Outcome State Fault Refusal :=
  .next (s.takeDirect 0x15 tag fun t s => s.run (cmdEditCancel t))

/-- SET_FRAME_COUNT (R25). -/
def execSetFrameCount (tag m : Byte) (s : State) : Host.Outcome State Fault Refusal :=
  .next (s.takeDirect 0x16 tag fun t s => s.run (cmdSetFrameCount s.arb.lock t m.toNat))

/-- LAYOUT (R26). -/
def execLayout (tag pairing : Byte) (s : State) : Host.Outcome State Fault Refusal :=
  .next (s.takeDirect 0x17 tag fun t s => s.run (cmdLayout s.arb.lock t pairing))

/-- SLOT_MARK (R70). -/
def execSlotMark (tag deck position : Byte) (s : State) : Host.Outcome State Fault Refusal :=
  .next (s.takeDirect 0x28 tag fun t s => s.run (cmdSlotMark t deck position.toNat))

/-- SLOT_RELOAD (R71). -/
def execSlotReload (tag deck position : Byte) (s : State) : Host.Outcome State Fault Refusal :=
  .next (s.takeDirect 0x29 tag fun t s => s.run (cmdSlotReload t deck position.toNat))

/-- COMPARE_READ (R74). -/
def execCompareRead (tag : Byte) (s : State) : Host.Outcome State Fault Refusal :=
  .next (s.takeDirect 0x2A tag fun t s => s.run (cmdCompareRead t))

end Sys2Proof.Machine
end

