-- ==== Sys2Proof/Machine/DeckRows.lean ====
section
/-! DEFINITION. Meanings of rows: the deck commands and the deck's events (02_deck_mechanism.md). -/

namespace Sys2Proof.Machine

/-- DECK_HOME (R48). -/
def execDeckHome (tag deck : Byte) (s : State) : Host.Outcome State Fault Refusal :=
  .next (s.takeDirect 0x20 tag fun t s => s.run (cmdDeckHome t deck))

/-- DECK_CENSUS (R49). -/
def execDeckCensus (tag deck : Byte) (s : State) : Host.Outcome State Fault Refusal :=
  .next (s.takeDirect 0x21 tag fun t s => s.run (cmdDeckCensus t deck))

/-- DECK_RELEASE (R50). -/
def execDeckRelease (tag deck : Byte) (s : State) : Host.Outcome State Fault Refusal :=
  .next (s.takeDirect 0x22 tag fun t s => s.run (cmdDeckRelease t deck))

/-- DECK_SERVICE (R51). -/
def execDeckService (tag deck on : Byte) (s : State) : Host.Outcome State Fault Refusal :=
  .next (s.takeDirect 0x23 tag fun t s => s.run (cmdDeckService t deck on))

/-- DECK_CLEAR (R52). -/
def execDeckClear (tag deck : Byte) (s : State) : Host.Outcome State Fault Refusal :=
  .next (s.takeDirect 0x24 tag fun t s => s.run (cmdDeckClear t deck))

/-- DECK_STATUS (R53). -/
def execDeckStatus (tag deck : Byte) (s : State) : Host.Outcome State Fault Refusal :=
  .next (s.takeDirect 0x25 tag fun t s => s.run (cmdDeckStatus t deck))

/-- SET_DECK_OPTIONS (R54). -/
def execSetDeckOptions (tag deck censusOnLoad : Byte) (s : State) : Host.Outcome State Fault Refusal :=
  .next (s.takeDirect 0x26 tag fun t s => s.run (cmdSetDeckOptions t deck censusOnLoad))

/-- TRAY_INSERTION (R44). -/
def execTrayInsertion (deck : DeckId) (size : TraySize) (s : State) : Host.Outcome State Fault Refusal :=
  .next (s.run fun w => w.trayInsertion deck size)

/-- SEAT_SETTLE_EXPIRY (R44). -/
def execSeatSettleExpiry (deck : DeckId) (s : State) : Host.Outcome State Fault Refusal :=
  .next (s.run fun w => w.seatSettleExpiry deck)

/-- TRAY_REMOVAL (R45). -/
def execTrayRemoval (deck : DeckId) (s : State) : Host.Outcome State Fault Refusal :=
  .next (s.run fun w => w.trayRemoval deck)

/-- SLOT_PULSE (R30). -/
def execSlotPulse (deck : DeckId) (index present : Bool) (s : State) : Host.Outcome State Fault Refusal :=
  .next (s.run fun w => w.slotPulse deck index present)

/-- ROTATE_DISTANCE_END (R34). -/
def execRotateDistanceEnd (deck : DeckId) (present : Bool) (s : State) : Host.Outcome State Fault Refusal :=
  .next (s.run fun w => w.rotateDistanceEnd deck present)

/-- INDEX_SEARCH_LIMIT (R40). -/
def execIndexSearchLimit (deck : DeckId) (s : State) : Host.Outcome State Fault Refusal :=
  .next (s.run fun w => w.indexSearchLimit deck)

/-- CENSUS_SCAN_COMPLETE (R41). -/
def execCensusScanComplete (deck : DeckId) (s : State) : Host.Outcome State Fault Refusal :=
  .next (s.run fun w => w.censusScanComplete deck)

/-- SLOT_PULSE_WATCH_EXPIRY (R31). -/
def execSlotPulseWatchExpiry (deck : DeckId) (s : State) : Host.Outcome State Fault Refusal :=
  .next (s.run fun w => w.slotPulseWatchExpiry deck)

/-- GATE_SENSOR_CLEARS (R33). -/
def execGateSensorClears (deck : DeckId) (s : State) : Host.Outcome State Fault Refusal :=
  .next (s.run fun w => w.gateClears deck)

/-- GATE_SENSOR_MAKES (R31, R35). -/
def execGateSensorMakes (deck : DeckId) (s : State) : Host.Outcome State Fault Refusal :=
  .next (s.run fun w => w.gateMakes deck)

/-- LIFT_WATCH_EXPIRY (R33). -/
def execLiftWatchExpiry (deck : DeckId) (s : State) : Host.Outcome State Fault Refusal :=
  .next (s.run fun w => w.liftWatchExpiry deck)

/-- DROP_WATCH_EXPIRY (R35). -/
def execDropWatchExpiry (deck : DeckId) (s : State) : Host.Outcome State Fault Refusal :=
  .next (s.run fun w => w.dropWatchExpiry deck)

/-- SETTLE_END (R35). -/
def execSettleEnd (deck : DeckId) (s : State) : Host.Outcome State Fault Refusal :=
  .next (s.run fun w => w.settleEnd deck)

end Sys2Proof.Machine
end

