-- ==== Sys2Proof/Machine/PresentationRows.lean ====
section
/-! DEFINITION. Meanings of rows: the presentation commands and the hold timer's expiry (04_presentation.md). -/

namespace Sys2Proof.Machine

/-- ADVANCE (R101). -/
def execAdvance (tag : Byte) (s : State) : Host.Outcome State Fault Refusal :=
  .next (s.takeDirect 0x30 tag fun t s => cmdAdvance t s)

/-- REVERSE (R101). -/
def execReverse (tag : Byte) (s : State) : Host.Outcome State Fault Refusal :=
  .next (s.takeDirect 0x31 tag fun t s => cmdReverse t s)

/-- GOTO (R102). -/
def execGoto (tag frame : Byte) (s : State) : Host.Outcome State Fault Refusal :=
  .next (s.takeDirect 0x32 tag fun t s => cmdGoto frame.toNat t s)

/-- DARK (R103). -/
def execDark (tag arg : Byte) (s : State) : Host.Outcome State Fault Refusal :=
  .next (s.takeDirect 0x33 tag fun t s => cmdDark arg t s)

/-- SET_MODE (R104). -/
def execSetMode (tag mode : Byte) (s : State) : Host.Outcome State Fault Refusal :=
  .next (s.takeDirect 0x34 tag fun t s => s.run (cmdSetMode t mode))

/-- SET_PAIRING (R105). -/
def execSetPairing (tag pairing : Byte) (s : State) : Host.Outcome State Fault Refusal :=
  .next (s.takeDirect 0x35 tag fun t s => s.run (cmdSetPairing t pairing))

/-- SET_LOOP (R106). -/
def execSetLoop (tag start stop on : Byte) (s : State) : Host.Outcome State Fault Refusal :=
  .next (s.takeDirect 0x36 tag fun t s => s.run (cmdSetLoop t start.toNat stop.toNat on))

/-- SET_DEFAULT_CLASS (R107). -/
def execSetDefaultClass (tag c : Byte) (s : State) : Host.Outcome State Fault Refusal :=
  .next (s.takeDirect 0x37 tag fun t s => s.run (cmdSetDefaultClass t c.toNat))

/-- SET_MASTER_LEVEL (R108). -/
def execSetMasterLevel (tag m : Byte) (s : State) : Host.Outcome State Fault Refusal :=
  .next (s.takeDirect 0x38 tag fun t s => s.run (cmdSetMasterLevel t m.toNat))

/-- GET_POSITION (R109). -/
def execGetPosition (tag : Byte) (s : State) : Host.Outcome State Fault Refusal :=
  .next (s.takeDirect 0x39 tag fun t s => s.run (cmdGetPosition t))

/-- HOLD_TIMER_EXPIRY (R89). -/
def execHoldTimerExpiry (s : State) : Host.Outcome State Fault Refusal :=
  .next (s.run Work.holdExpiry)

end Sys2Proof.Machine
end

