-- ==== Sys2Proof/Machine/LampRows.lean ====
section
/-! DEFINITION. Meanings of rows: the lamp and power commands and the LCU's events (05_lamps_levels_and_cooling.md). -/

namespace Sys2Proof.Machine

/-- LAMP_ON (R134). -/
def execLampOn (tag deck : Byte) (s : State) : Host.Outcome State Fault Refusal :=
  .next (s.takeDirect 0x40 tag fun t s => s.run (cmdLampOn t deck))

/-- LAMP_OFF (R135). -/
def execLampOff (tag deck : Byte) (s : State) : Host.Outcome State Fault Refusal :=
  .next (s.takeDirect 0x41 tag fun t s => s.run (cmdLampOff t deck))

/-- LAMP_REPLACED (R136). -/
def execLampReplaced (tag deck : Byte) (s : State) : Host.Outcome State Fault Refusal :=
  .next (s.takeDirect 0x42 tag fun t s => s.run (cmdLampReplaced t deck))

/-- LAMP_STATUS (R137). -/
def execLampStatus (tag deck : Byte) (s : State) : Host.Outcome State Fault Refusal :=
  .next (s.takeDirect 0x43 tag fun t s => s.run (cmdLampStatus t deck))

/-- THERMAL_READ (R138). -/
def execThermalRead (tag : Byte) (s : State) : Host.Outcome State Fault Refusal :=
  .next (s.takeDirect 0x44 tag fun t s => s.run (cmdThermalRead t))

/-- STANDBY (R130). -/
def execStandby (tag : Byte) (s : State) : Host.Outcome State Fault Refusal :=
  .next (s.takeDirect 0x45 tag fun t s => s.run (cmdStandby t))

/-- WAKE (R132). -/
def execWake (tag : Byte) (s : State) : Host.Outcome State Fault Refusal :=
  .next (s.takeDirect 0x46 tag fun t s => s.run (cmdWake t))

/-- SOFT_START_END (R114). -/
def execSoftStartEnd (deck : DeckId) (s : State) : Host.Outcome State Fault Refusal :=
  .next (s.run fun w => w.softStartEnd deck)

/-- FILAMENT_CURRENT_SEEN (R114). -/
def execFilamentCurrentSeen (deck : DeckId) (s : State) : Host.Outcome State Fault Refusal :=
  .next (s.run fun w => w.currentSeen deck)

/-- STRIKE_VERIFY_EXPIRY (R114). -/
def execStrikeVerifyExpiry (deck : DeckId) (s : State) : Host.Outcome State Fault Refusal :=
  .next (s.run fun w => w.verifyExpiry deck)

/-- RETRY_GAP_END (R114). -/
def execRetryGapEnd (deck : DeckId) (s : State) : Host.Outcome State Fault Refusal :=
  .next (s.run fun w => w.retryGapEnd deck)

/-- RESTRIKE_INHIBIT_EXPIRY (R113). -/
def execRestrikeInhibitExpiry (deck : DeckId) (s : State) : Host.Outcome State Fault Refusal :=
  .next (s.run fun w => w.inhibitExpiry deck)

/-- BURNOUT (R116). -/
def execBurnout (deck : DeckId) (s : State) : Host.Outcome State Fault Refusal :=
  .next (s.run fun w => w.burnout deck)

/-- CHANGER_CONFIRM (R115). -/
def execChangerConfirm (deck : DeckId) (s : State) : Host.Outcome State Fault Refusal :=
  .next (s.run fun w => w.changerConfirm deck)

/-- CHANGER_CONFIRM_TIMEOUT (R115). -/
def execChangerConfirmTimeout (deck : DeckId) (s : State) : Host.Outcome State Fault Refusal :=
  .next (s.run fun w => w.changerTimeout deck)

/-- RAMP_STEP (R119). -/
def execRampStep (s : State) : Host.Outcome State Fault Refusal :=
  .next (s.run Work.rampStep)

/-- RAMP_COMPLETION (R120). -/
def execRampCompletion (deck : DeckId) (s : State) : Host.Outcome State Fault Refusal :=
  .next (s.run fun w => w.rampCompletion deck)

/-- DARK_FADE_END (R121). -/
def execDarkFadeEnd (deck : DeckId) (s : State) : Host.Outcome State Fault Refusal :=
  .next (s.run fun w => w.darkFadeEnd deck)

/-- TEMPERATURE_READING (R123, R124); a value above 150 is no reading (log 12). -/
def execTemperatureReading (sensor : Fin 3) (value : Byte) (s : State) : Host.Outcome State Fault Refusal :=
  if temperatureOk value then .next (s.run fun w => w.temperatureReading sensor value.toNat) else .fault .illFormed

/-- SENSOR_SILENT (R123). -/
def execSensorSilent (sensor : Fin 3) (s : State) : Host.Outcome State Fault Refusal :=
  .next (s.run fun w => w.sensorSilent sensor)

/-- FAN_TACH_PULSE (R126). -/
def execFanTachPulse (s : State) : Host.Outcome State Fault Refusal :=
  .next (s.run Work.fanTachPulse)

/-- FAN_TACH_TIMEOUT (R126). -/
def execFanTachTimeout (s : State) : Host.Outcome State Fault Refusal :=
  .next (s.run Work.fanTachTimeout)

/-- FAN_FAULT_CLEAR (R126). -/
def execFanFaultClear (s : State) : Host.Outcome State Fault Refusal :=
  .next (s.run Work.fanFaultClear)

/-- COOLDOWN_COUNT_EXPIRY (R131). -/
def execCooldownCountExpiry (s : State) : Host.Outcome State Fault Refusal :=
  .next (s.run Work.cooldownCountExpiry)

end Sys2Proof.Machine
end

