-- ==== Sys2Proof/Machine/TapeRows.lean ====
section
/-! DEFINITION. Meanings of rows: the tape, cue and sound commands and the tape unit's events (06_tape_sound_and_cues.md). -/

namespace Sys2Proof.Machine

/-- TAPE_PLAY (R143). -/
def execTapePlay (tag : Byte) (s : State) : Host.Outcome State Fault Refusal :=
  .next (s.takeDirect 0x50 tag fun t s => s.run (cmdTapePlay t))

/-- TAPE_STOP (R144). -/
def execTapeStop (tag : Byte) (s : State) : Host.Outcome State Fault Refusal :=
  .next (s.takeDirect 0x51 tag fun t s => s.run (cmdTapeStop t))

/-- TAPE_PAUSE (R145). -/
def execTapePause (tag : Byte) (s : State) : Host.Outcome State Fault Refusal :=
  .next (s.takeDirect 0x52 tag fun t s => s.run (cmdTapePause t))

/-- TAPE_RESUME (R145). -/
def execTapeResume (tag : Byte) (s : State) : Host.Outcome State Fault Refusal :=
  .next (s.takeDirect 0x53 tag fun t s => s.run (cmdTapeResume t))

/-- TAPE_WIND (R146). -/
def execTapeWind (tag direction : Byte) (s : State) : Host.Outcome State Fault Refusal :=
  .next (s.takeDirect 0x54 tag fun t s => s.run (cmdTapeWind t direction))

/-- TAPE_ZERO (R147). -/
def execTapeZero (tag : Byte) (s : State) : Host.Outcome State Fault Refusal :=
  .next (s.takeDirect 0x55 tag fun t s => s.run (cmdTapeZero t))

/-- SET_CUE_OPTIONS (R168). -/
def execSetCueOptions (tag policy chase : Byte) (s : State) : Host.Outcome State Fault Refusal :=
  .next (s.takeDirect 0x56 tag fun t s => s.run (cmdSetCueOptions t policy chase))

/-- CUE_TAKE_HELD (R153). -/
def execCueTakeHeld (tag : Byte) (s : State) : Host.Outcome State Fault Refusal :=
  .next (s.takeDirect 0x57 tag fun t s => s.run (cmdCueTakeHeld s.arb.authority.cue.tape t))

/-- CUE_DISCARD_HELD (R153). -/
def execCueDiscardHeld (tag : Byte) (s : State) : Host.Outcome State Fault Refusal :=
  .next (s.takeDirect 0x58 tag fun t s => s.run (cmdCueDiscardHeld t))

/-- CUE_INSERT (R165). -/
def execCueInsert (tag kind arg : Byte) (s : State) : Host.Outcome State Fault Refusal :=
  .next (s.takeDirect 0x59 tag fun t s => s.run (cmdCueInsert t kind arg))

/-- CUE_MAP_READ (R159). -/
def execCueMapRead (tag : Byte) (first : BitVec 16) (n : Byte) (s : State) : Host.Outcome State Fault Refusal :=
  .next (s.takeDirect 0x5A tag fun t s => s.run (cmdCueMapRead t first.toNat n.toNat))

/-- CUE_MAP_LOAD (R159). -/
def execCueMapLoad (tag : Byte) (count : BitVec 16) (seq kind arg frameAfter : Byte) (s : State) : Host.Outcome State Fault Refusal :=
  .next (s.takeDirect 0x5B tag fun t s =>
    s.run (cmdCueMapLoad t count.toNat seq.toNat kind.toNat arg.toNat frameAfter.toNat))

/-- CUE_MAP_CLEAR (R159). -/
def execCueMapClear (tag : Byte) (s : State) : Host.Outcome State Fault Refusal :=
  .next (s.takeDirect 0x5C tag fun t s => s.run (cmdCueMapClear t))

/-- SOUND_LEVEL (R167). -/
def execSoundLevel (tag level : Byte) (s : State) : Host.Outcome State Fault Refusal :=
  .next (s.takeDirect 0x5D tag fun t s => s.run (cmdSoundLevel t level))

/-- SOUND_MUTE (R167). -/
def execSoundMute (tag on : Byte) (s : State) : Host.Outcome State Fault Refusal :=
  .next (s.takeDirect 0x5E tag fun t s => s.run (cmdSoundMute t on))

/-- TAPE_STATUS (R169). -/
def execTapeStatus (tag : Byte) (s : State) : Host.Outcome State Fault Refusal :=
  .next (s.takeDirect 0x5F tag fun t s => s.run (cmdTapeStatus t))

/-- TAPE_TACH_PULSE (R140). -/
def execTapeTachPulse (s : State) : Host.Outcome State Fault Refusal :=
  .next (s.run Work.tachPulse)

/-- TACH_WATCH_EXPIRY (R141). -/
def execTachWatchExpiry (s : State) : Host.Outcome State Fault Refusal :=
  .next (s.run Work.tachExpiry)

/-- LEADER_SENSOR_MAKES (R142). -/
def execLeaderSensorMakes (s : State) : Host.Outcome State Fault Refusal :=
  .next (s.run Work.leaderMakes)

/-- LEADER_SENSOR_CLEARS (R142). -/
def execLeaderSensorClears (s : State) : Host.Outcome State Fault Refusal :=
  .next (s.run Work.leaderClears)

/-- TAPE_REMOVAL (R142). -/
def execTapeRemoval (s : State) : Host.Outcome State Fault Refusal :=
  .next (s.run Work.tapeRemoval)

/-- TAPE_INSERTION (R142). -/
def execTapeInsertion (s : State) : Host.Outcome State Fault Refusal :=
  .next (s.run Work.tapeInsertion)

/-- CUE_WORD_DELIVERED (R150). -/
def execCueWordDelivered (word : BitVec 24) (s : State) : Host.Outcome State Fault Refusal :=
  .next (s.run fun w => w.cueWord s.arb.authority.cue.tape word)

/-- END_RUN_OUT_EXPIRY (R157). -/
def execEndRunOutExpiry (s : State) : Host.Outcome State Fault Refusal :=
  .next (s.run Work.runOutExpiry)

/-- WORD_WRITING_END (R162). -/
def execWordWritingEnd (s : State) : Host.Outcome State Fault Refusal :=
  .next (s.run Work.wordEnd)

/-- SOUND_FADE_STEP (R166). -/
def execSoundFadeStep (s : State) : Host.Outcome State Fault Refusal :=
  .next (s.run Work.soundStep)

/-- END_FADE_STEP (R166). -/
def execEndFadeStep (s : State) : Host.Outcome State Fault Refusal :=
  .next (s.run Work.endFadeStep)

end Sys2Proof.Machine
end

