-- ==== Sys2Proof/Machine/ArbiterRows.lean ====
section
/-! DEFINITION. Meanings of rows: the arbiter's commands, its grant opportunity and the SHOWLOCK key (07_request_sources_and_arbitration.md). -/

namespace Sys2Proof.Machine

/-- SET_PHASES (R182); fewer or more than sixteen phases are no such command (log 12). -/
def execSetPhases (tag : Byte) (phases : List Byte) (s : State) : Host.Outcome State Fault Refusal :=
  if phasesOk phases then .next (s.takeDirect 0x60 tag fun t s => cmdSetPhases t phases s)
  else .fault .illFormed

/-- SET_AUTHORITY (R183). -/
def execSetAuthority (tag source motion level edit tape : Byte) (s : State) : Host.Outcome State Fault Refusal :=
  .next (s.takeDirect 0x61 tag fun t s => cmdSetAuthority t source motion level edit tape s)

/-- SET_RANGE_LOCK (R184). -/
def execSetRangeLock (tag lo hi invert : Byte) (s : State) : Host.Outcome State Fault Refusal :=
  .next (s.takeDirect 0x62 tag fun t s => cmdSetRangeLock t lo hi invert s)

/-- SET_LOCK_HOLD (R185). -/
def execSetLockHold (tag on : Byte) (s : State) : Host.Outcome State Fault Refusal :=
  .next (s.takeDirect 0x63 tag fun t s => cmdSetLockHold t on s)

/-- ARBITER_STATUS (R186). -/
def execArbiterStatus (tag : Byte) (s : State) : Host.Outcome State Fault Refusal :=
  .next (s.takeDirect 0x64 tag fun t s => cmdArbiterStatus t s)

/-- GRANT_OPPORTUNITY (R177). -/
def execGrantOpportunity (s : State) : Host.Outcome State Fault Refusal :=
  .next (s.grantOpportunity)

/-- SHOWLOCK_KEY_CHANGE (R181). -/
def execShowlockKeyChange (on : Bool) (s : State) : Host.Outcome State Fault Refusal :=
  .next { s with arb := { s.arb with key := on } }

end Sys2Proof.Machine
end

