-- ==== Sys2Proof/Machine/RemoteRows.lean ====
section
/-! DEFINITION. Meanings of rows: SET_REMOTE and the remote receiver's events (08_hand_remote.md). -/

namespace Sys2Proof.Machine

/-- SET_REMOTE (R193). -/
def execSetRemote (tag ir wired channel : Byte) (s : State) : Host.Outcome State Fault Refusal :=
  .next (s.takeDirect 0x68 tag fun t s => s.run (cmdSetRemote t ir wired channel.toNat))

/-- WIRED_LINE_PRESS (R187). -/
def execWiredLinePress (line : Line) (s : State) : Host.Outcome State Fault Refusal :=
  .next (s.linePress line)

/-- WIRED_LINE_RELEASE (R187). -/
def execWiredLineRelease (line : Line) (s : State) : Host.Outcome State Fault Refusal :=
  .next (s.modRemote fun r => r.lineRelease line)

/-- IR_FIRST_CODE (R188). -/
def execIrFirstCode (channel : BitVec 4) (key : Key) (s : State) : Host.Outcome State Fault Refusal :=
  .next (s.irFirst channel.toNat key)

/-- IR_REPEAT_CODE (R188). -/
def execIrRepeatCode (channel : BitVec 4) (s : State) : Host.Outcome State Fault Refusal :=
  .next (s.modRemote fun r => r.irRepeat channel.toNat)

/-- IR_RELEASE_TIMEOUT (R188). -/
def execIrReleaseTimeout (s : State) : Host.Outcome State Fault Refusal :=
  .next (s.modRemote Remote.irRelease')

/-- KEY_REPEAT (R190). -/
def execKeyRepeat (input : HeldInput) (s : State) : Host.Outcome State Fault Refusal :=
  .next (s.keyRepeat input)

/-- ENTRY_TIMER_EXPIRY (R191). -/
def execEntryTimerExpiry (s : State) : Host.Outcome State Fault Refusal :=
  .next (s.modRemote Remote.entryExpiry)

end Sys2Proof.Machine
end

