-- ==== Sys2Proof/Machine/LinkRows.lean ====
section
/-! DEFINITION. Meanings of rows: the link commands, bytes, frames and reads (09_pair_link.md). -/

namespace Sys2Proof.Machine

/-- SET_LINK (R206). -/
def execSetLink (tag station groups : Byte) (s : State) : Host.Outcome State Fault Refusal :=
  .next (s.takeDirect 0x6A tag fun t s => s.run (cmdSetLink t station.toNat groups.toNat))

/-- LINK_STATUS (R207). -/
def execLinkStatus (tag : Byte) (s : State) : Host.Outcome State Fault Refusal :=
  .next (s.takeDirect 0x6B tag fun t s => s.run (cmdLinkStatus t))

/-- LINK_CODE_BYTE (R197). -/
def execLinkCodeByte (byte : Byte) (s : State) : Host.Outcome State Fault Refusal :=
  .next (s.linkCodeByte byte)

/-- LINK_ADVANCE (R198). -/
def execLinkAdvance (s : State) : Host.Outcome State Fault Refusal :=
  .next (s.linkAdvance)

/-- LINK_REVERSE (R198). -/
def execLinkReverse (s : State) : Host.Outcome State Fault Refusal :=
  .next (s.linkReverse)

/-- LINK_GOTO (R198). -/
def execLinkGoto (s : State) : Host.Outcome State Fault Refusal :=
  .next (s.linkGoto)

/-- LINK_DARK (R198). -/
def execLinkDark (s : State) : Host.Outcome State Fault Refusal :=
  .next (s.linkDark)

/-- SELECT_READ (R199). -/
def execSelectRead (s : State) : Host.Outcome State Fault Refusal :=
  .next (s.selectRead)

/-- CURSOR_SET (R203). -/
def execCursorSet (s : State) : Host.Outcome State Fault Refusal :=
  .next (s.cursorSet)

/-- CURSOR_WRITE (R205). -/
def execCursorWrite (s : State) : Host.Outcome State Fault Refusal :=
  .next (s.cursorWrite)

/-- CLEAR_OVERRUN (R199). -/
def execClearOverrun (s : State) : Host.Outcome State Fault Refusal :=
  .next (s.clearOverrun)

/-- INCOMPLETE_FRAME_DISCARD (R196). -/
def execIncompleteFrameDiscard (byStart : Bool) (s : State) : Host.Outcome State Fault Refusal :=
  .next (s.modLink fun l => l.discardFrame byStart)

/-- LINK_READ (R200). -/
def execLinkRead (address : BitVec 7) (s : State) : Host.Outcome State Fault Refusal :=
  .next { s with blk := s.blk.linkRead address.toNat }

/-- READ_HOLD_TIMEOUT (R201). -/
def execReadHoldTimeout (s : State) : Host.Outcome State Fault Refusal :=
  .next (s.modLink Link.holdTimeout)

/-- LINK_ADDRESS_BYTE (R195). -/
def execLinkAddressByte (address : BitVec 7) (s : State) : Host.Outcome State Fault Refusal :=
  .next (s.modLink fun l => l.addressByte address.toNat)

/-- LINK_ARGUMENT_BYTE (R196). -/
def execLinkArgumentByte (byte : Byte) (s : State) : Host.Outcome State Fault Refusal :=
  .next (s.modLink fun l => l.argumentByte byte)

/-- READ_ABANDONED (R200). -/
def execReadAbandoned (s : State) : Host.Outcome State Fault Refusal :=
  .next (s.modLink Link.abandonRead)

end Sys2Proof.Machine
end

