-- ==== Sys2Proof/Machine/Dispatch.lean ====
section
/-! DEFINITION. Which meaning each command has. -/

namespace Sys2Proof.Machine

/-- The effect of a command on everything but the queue. -/
def exec (i : Instr) (s : State) : Host.Outcome State Fault Refusal :=
  match i with
  | .writeCmdSlot slot bytes => Sys2Proof.Machine.execWriteCmdSlot slot bytes s
  | .giveCmd => Sys2Proof.Machine.execGiveCmd s
  | .returnRsp => Sys2Proof.Machine.execReturnRsp s
  | .readPortStatus => Sys2Proof.Machine.execReadPortStatus s
  | .partReset => Sys2Proof.Machine.execPartReset s
  | .powerOnReset => Sys2Proof.Machine.execPowerOnReset s
  | .takeCommand => Sys2Proof.Machine.execTakeCommand s
  | .recordToResponseRing => Sys2Proof.Machine.execRecordToResponseRing s
  | .slotRead tag deck first n => Sys2Proof.Machine.execSlotRead tag deck first n s
  | .frameRead tag first n => Sys2Proof.Machine.execFrameRead tag first n s
  | .editOpen tag first n => Sys2Proof.Machine.execEditOpen tag first n s
  | .editSet tag index field value => Sys2Proof.Machine.execEditSet tag index field value s
  | .editCommit tag target => Sys2Proof.Machine.execEditCommit tag target s
  | .editCancel tag => Sys2Proof.Machine.execEditCancel tag s
  | .setFrameCount tag m => Sys2Proof.Machine.execSetFrameCount tag m s
  | .layout tag pairing => Sys2Proof.Machine.execLayout tag pairing s
  | .deckHome tag deck => Sys2Proof.Machine.execDeckHome tag deck s
  | .deckCensus tag deck => Sys2Proof.Machine.execDeckCensus tag deck s
  | .deckRelease tag deck => Sys2Proof.Machine.execDeckRelease tag deck s
  | .deckService tag deck on => Sys2Proof.Machine.execDeckService tag deck on s
  | .deckClear tag deck => Sys2Proof.Machine.execDeckClear tag deck s
  | .deckStatus tag deck => Sys2Proof.Machine.execDeckStatus tag deck s
  | .setDeckOptions tag deck censusOnLoad => Sys2Proof.Machine.execSetDeckOptions tag deck censusOnLoad s
  | .slotMark tag deck position => Sys2Proof.Machine.execSlotMark tag deck position s
  | .slotReload tag deck position => Sys2Proof.Machine.execSlotReload tag deck position s
  | .compareRead tag => Sys2Proof.Machine.execCompareRead tag s
  | .advance tag => Sys2Proof.Machine.execAdvance tag s
  | .reverse tag => Sys2Proof.Machine.execReverse tag s
  | .goto tag frame => Sys2Proof.Machine.execGoto tag frame s
  | .dark tag arg => Sys2Proof.Machine.execDark tag arg s
  | .setMode tag mode => Sys2Proof.Machine.execSetMode tag mode s
  | .setPairing tag pairing => Sys2Proof.Machine.execSetPairing tag pairing s
  | .setLoop tag start stop on => Sys2Proof.Machine.execSetLoop tag start stop on s
  | .setDefaultClass tag c => Sys2Proof.Machine.execSetDefaultClass tag c s
  | .setMasterLevel tag m => Sys2Proof.Machine.execSetMasterLevel tag m s
  | .getPosition tag => Sys2Proof.Machine.execGetPosition tag s
  | .lampOn tag deck => Sys2Proof.Machine.execLampOn tag deck s
  | .lampOff tag deck => Sys2Proof.Machine.execLampOff tag deck s
  | .lampReplaced tag deck => Sys2Proof.Machine.execLampReplaced tag deck s
  | .lampStatus tag deck => Sys2Proof.Machine.execLampStatus tag deck s
  | .thermalRead tag => Sys2Proof.Machine.execThermalRead tag s
  | .standby tag => Sys2Proof.Machine.execStandby tag s
  | .wake tag => Sys2Proof.Machine.execWake tag s
  | .tapePlay tag => Sys2Proof.Machine.execTapePlay tag s
  | .tapeStop tag => Sys2Proof.Machine.execTapeStop tag s
  | .tapePause tag => Sys2Proof.Machine.execTapePause tag s
  | .tapeResume tag => Sys2Proof.Machine.execTapeResume tag s
  | .tapeWind tag direction => Sys2Proof.Machine.execTapeWind tag direction s
  | .tapeZero tag => Sys2Proof.Machine.execTapeZero tag s
  | .setCueOptions tag policy chase => Sys2Proof.Machine.execSetCueOptions tag policy chase s
  | .cueTakeHeld tag => Sys2Proof.Machine.execCueTakeHeld tag s
  | .cueDiscardHeld tag => Sys2Proof.Machine.execCueDiscardHeld tag s
  | .cueInsert tag kind arg => Sys2Proof.Machine.execCueInsert tag kind arg s
  | .cueMapRead tag first n => Sys2Proof.Machine.execCueMapRead tag first n s
  | .cueMapLoad tag count seq kind arg frameAfter => Sys2Proof.Machine.execCueMapLoad tag count seq kind arg frameAfter s
  | .cueMapClear tag => Sys2Proof.Machine.execCueMapClear tag s
  | .soundLevel tag level => Sys2Proof.Machine.execSoundLevel tag level s
  | .soundMute tag on => Sys2Proof.Machine.execSoundMute tag on s
  | .tapeStatus tag => Sys2Proof.Machine.execTapeStatus tag s
  | .setPhases tag phases => Sys2Proof.Machine.execSetPhases tag phases s
  | .setAuthority tag source motion level edit tape => Sys2Proof.Machine.execSetAuthority tag source motion level edit tape s
  | .setRangeLock tag lo hi invert => Sys2Proof.Machine.execSetRangeLock tag lo hi invert s
  | .setLockHold tag on => Sys2Proof.Machine.execSetLockHold tag on s
  | .arbiterStatus tag => Sys2Proof.Machine.execArbiterStatus tag s
  | .setRemote tag ir wired channel => Sys2Proof.Machine.execSetRemote tag ir wired channel s
  | .setLink tag station groups => Sys2Proof.Machine.execSetLink tag station groups s
  | .linkStatus tag => Sys2Proof.Machine.execLinkStatus tag s
  | .abort tag target => Sys2Proof.Machine.execAbort tag target s
  | .commandStatus tag target => Sys2Proof.Machine.execCommandStatus tag target s
  | .grantOpportunity => Sys2Proof.Machine.execGrantOpportunity s
  | .trayInsertion deck size => Sys2Proof.Machine.execTrayInsertion deck size s
  | .seatSettleExpiry deck => Sys2Proof.Machine.execSeatSettleExpiry deck s
  | .trayRemoval deck => Sys2Proof.Machine.execTrayRemoval deck s
  | .slotPulse deck index present => Sys2Proof.Machine.execSlotPulse deck index present s
  | .rotateDistanceEnd deck present => Sys2Proof.Machine.execRotateDistanceEnd deck present s
  | .indexSearchLimit deck => Sys2Proof.Machine.execIndexSearchLimit deck s
  | .censusScanComplete deck => Sys2Proof.Machine.execCensusScanComplete deck s
  | .slotPulseWatchExpiry deck => Sys2Proof.Machine.execSlotPulseWatchExpiry deck s
  | .gateSensorClears deck => Sys2Proof.Machine.execGateSensorClears deck s
  | .gateSensorMakes deck => Sys2Proof.Machine.execGateSensorMakes deck s
  | .liftWatchExpiry deck => Sys2Proof.Machine.execLiftWatchExpiry deck s
  | .dropWatchExpiry deck => Sys2Proof.Machine.execDropWatchExpiry deck s
  | .settleEnd deck => Sys2Proof.Machine.execSettleEnd deck s
  | .softStartEnd deck => Sys2Proof.Machine.execSoftStartEnd deck s
  | .filamentCurrentSeen deck => Sys2Proof.Machine.execFilamentCurrentSeen deck s
  | .strikeVerifyExpiry deck => Sys2Proof.Machine.execStrikeVerifyExpiry deck s
  | .retryGapEnd deck => Sys2Proof.Machine.execRetryGapEnd deck s
  | .restrikeInhibitExpiry deck => Sys2Proof.Machine.execRestrikeInhibitExpiry deck s
  | .burnout deck => Sys2Proof.Machine.execBurnout deck s
  | .changerConfirm deck => Sys2Proof.Machine.execChangerConfirm deck s
  | .changerConfirmTimeout deck => Sys2Proof.Machine.execChangerConfirmTimeout deck s
  | .rampStep => Sys2Proof.Machine.execRampStep s
  | .rampCompletion deck => Sys2Proof.Machine.execRampCompletion deck s
  | .darkFadeEnd deck => Sys2Proof.Machine.execDarkFadeEnd deck s
  | .temperatureReading sensor value => Sys2Proof.Machine.execTemperatureReading sensor value s
  | .sensorSilent sensor => Sys2Proof.Machine.execSensorSilent sensor s
  | .fanTachPulse => Sys2Proof.Machine.execFanTachPulse s
  | .fanTachTimeout => Sys2Proof.Machine.execFanTachTimeout s
  | .fanFaultClear => Sys2Proof.Machine.execFanFaultClear s
  | .cooldownCountExpiry => Sys2Proof.Machine.execCooldownCountExpiry s
  | .holdTimerExpiry => Sys2Proof.Machine.execHoldTimerExpiry s
  | .tapeTachPulse => Sys2Proof.Machine.execTapeTachPulse s
  | .tachWatchExpiry => Sys2Proof.Machine.execTachWatchExpiry s
  | .leaderSensorMakes => Sys2Proof.Machine.execLeaderSensorMakes s
  | .leaderSensorClears => Sys2Proof.Machine.execLeaderSensorClears s
  | .tapeRemoval => Sys2Proof.Machine.execTapeRemoval s
  | .tapeInsertion => Sys2Proof.Machine.execTapeInsertion s
  | .cueWordDelivered word => Sys2Proof.Machine.execCueWordDelivered word s
  | .endRunOutExpiry => Sys2Proof.Machine.execEndRunOutExpiry s
  | .wordWritingEnd => Sys2Proof.Machine.execWordWritingEnd s
  | .soundFadeStep => Sys2Proof.Machine.execSoundFadeStep s
  | .endFadeStep => Sys2Proof.Machine.execEndFadeStep s
  | .wiredLinePress line => Sys2Proof.Machine.execWiredLinePress line s
  | .wiredLineRelease line => Sys2Proof.Machine.execWiredLineRelease line s
  | .irFirstCode channel key => Sys2Proof.Machine.execIrFirstCode channel key s
  | .irRepeatCode channel => Sys2Proof.Machine.execIrRepeatCode channel s
  | .irReleaseTimeout => Sys2Proof.Machine.execIrReleaseTimeout s
  | .keyRepeat input => Sys2Proof.Machine.execKeyRepeat input s
  | .entryTimerExpiry => Sys2Proof.Machine.execEntryTimerExpiry s
  | .showlockKeyChange on => Sys2Proof.Machine.execShowlockKeyChange on s
  | .linkCodeByte byte => Sys2Proof.Machine.execLinkCodeByte byte s
  | .linkAdvance => Sys2Proof.Machine.execLinkAdvance s
  | .linkReverse => Sys2Proof.Machine.execLinkReverse s
  | .linkGoto => Sys2Proof.Machine.execLinkGoto s
  | .linkDark => Sys2Proof.Machine.execLinkDark s
  | .selectRead => Sys2Proof.Machine.execSelectRead s
  | .cursorSet => Sys2Proof.Machine.execCursorSet s
  | .cursorWrite => Sys2Proof.Machine.execCursorWrite s
  | .clearOverrun => Sys2Proof.Machine.execClearOverrun s
  | .incompleteFrameDiscard byStart => Sys2Proof.Machine.execIncompleteFrameDiscard byStart s
  | .linkRead address => Sys2Proof.Machine.execLinkRead address s
  | .readHoldTimeout => Sys2Proof.Machine.execReadHoldTimeout s
  | .linkAddressByte address => Sys2Proof.Machine.execLinkAddressByte address s
  | .linkArgumentByte byte => Sys2Proof.Machine.execLinkArgumentByte byte s
  | .readAbandoned => Sys2Proof.Machine.execReadAbandoned s

end Sys2Proof.Machine
end

