-- ==== Sys2Proof/Machine/Idle.lean ====
section
/-! DEFINITION. What the part does when no command waits: a step of its own that is due, else one millisecond passes
(log 2, 3). -/

namespace Sys2Proof.Machine

/-- The part's own steps that are due, in the order in which it takes them (log 2). A grant opportunity comes before
everything else: it arises at the event that completes its conditions (R175). -/
def State.dueSteps (s : State) : List Instr :=
  let deckSteps (d : DeckId) (x : Deck) : List Instr :=
    (if x.rotateEndDue then [Instr.rotateDistanceEnd d x.slotPresent] else []) ++
    (if x.searchLimitDue then [Instr.indexSearchLimit d] else []) ++
    (if x.scanDue then [Instr.censusScanComplete d] else [])
  (if s.grantDue then [Instr.grantOpportunity] else []) ++
  (if s.port.moveDue then [Instr.recordToResponseRing] else []) ++
  (if s.takeDue then [Instr.takeCommand] else []) ++
  deckSteps .a s.blk.deckA ++ deckSteps .b s.blk.deckB ++
  (if s.blk.tape.wordEndDue then [Instr.wordWritingEnd] else []) ++
  (if s.blk.lampA.rampDone then [Instr.rampCompletion .a] else []) ++
  (if s.blk.lampB.rampDone then [Instr.rampCompletion .b] else [])

/-- One millisecond for every block (log 3). -/
def Blocks.tick (b : Blocks) : Blocks where
  deckA := b.deckA.tick
  deckB := b.deckB.tick
  lampA := b.lampA.tick
  lampB := b.lampB.tick
  lcu := b.lcu.tick
  pres := b.pres.tick
  tape := b.tape.tick
  remote := b.remote.tick
  link := b.link.tick

/-- One millisecond (log 3). -/
def State.tick (s : State) : State := { s with blk := s.blk.tick }

/-- The step on an empty queue. -/
def State.idle (s : State) : Host.Outcome State Fault Refusal :=
  match s.dueSteps with
  | i :: _ => exec i s
  | [] => .next s.tick

end Sys2Proof.Machine
end

