-- ==== Sys2Proof/Safety.lean ====
section
/-! DEFINITION. What a good state is (the laws that the manual states for the port's rings and queue, the request
queues, the phase table, the decks, the lamps, the show, the cue map and the cursor), and the words in which the
statements name what a command leaves behind. -/

namespace Sys2Proof.Machine

/-! ## Good states -/

/-- The laws of the command port: eight slots of 32 bytes in each ring, a part-owned response slot is empty (R209,
R213); used and reserved places never exceed 24 and the lost count stays in 0..255 (R211, R212); every record has 32
bytes (R211); and the commands that wait for an answer are told apart (the model's own; log 32), each with the places
its code needs (R210). -/
abbrev Port.Ok (p : Port) : Prop :=
  (p.cmd.length = 8 ∧ ∀ x ∈ p.cmd, x.bytes.length = 32) ∧
  (p.rsp.length = 8 ∧ ∀ x ∈ p.rsp, x.bytes.length = 32) ∧
  (∀ x ∈ p.rsp, x.partOwned = true → x.filled = false) ∧
  p.out.length + p.reserved ≤ Config.outgoingPlaces ∧ p.lost ≤ 255 ∧ (∀ r ∈ p.out, r.length = 32) ∧
  (∀ x ∈ p.unanswered, x.ticket.id < p.nextId ∧ x.places = places x.code) ∧
  (p.unanswered.map fun x => x.ticket.id).Nodup

/-- A phase table: sixteen phases, one of which names CPORT (R177, R182). -/
abbrev phasesGood (t : List (Option Source)) : Prop := t.length = 16 ∧ some Source.cport ∈ t

/-- An authority table: CPORT holds all four classes, and neither CUE nor REMOTE holds EDIT (R179). -/
abbrev authorityGood (t : AuthorityTable) : Prop :=
  t.cport = { motion := true, level := true, edit := true, tape := true } ∧ t.remote.edit = false ∧ t.cue.edit = false

/-- The laws of the arbiter: the four queues hold at most 4, 4, 2 and 8 requests, each of its own source (R171), the
phase tables are phase tables (R177, R182) and the authority tables authority tables (R179). -/
abbrev Arbiter.Ok (a : Arbiter) : Prop :=
  a.cport.length ≤ 4 ∧ a.link.length ≤ 4 ∧ a.remote.length ≤ 2 ∧ a.cue.length ≤ 8 ∧
  (∀ r ∈ a.cport, r.source = .cport) ∧ (∀ r ∈ a.link, r.source = .link) ∧
  (∀ r ∈ a.remote, r.source = .remote) ∧ (∀ r ∈ a.cue, r.source = .cue) ∧
  (phasesGood a.phases ∧ authorityGood a.authority) ∧ a.pointer < 16 ∧
  (∀ p ∈ a.pendingPhases, phasesGood p.table) ∧ (∀ p ∈ a.pendingAuthority, authorityGood p.table)

/-- A held link read is one that still waits for the end of its deferral (R201). -/
abbrev Blocks.ReadOk (b : Blocks) : Prop := b.link.readHold.isSome = true → b.readHeld = true

/-- The laws of the units that face outwards: the port, the arbiter and a held link read. -/
abbrev State.OuterOk (s : State) : Prop := s.port.Ok ∧ s.arb.Ok ∧ s.blk.ReadOk

/-- The operation needs the deck's position: a CHANGE that is not suspended, and each phase that begins from a place of
the tray (R34 to R36, R41, R42). -/
def Operation.needsPlace (op : Operation) : Bool :=
  (op.suspended.isNone && op.kind == .change) ||
    op.phase == .rotate || op.phase == .drop || op.phase == .settle || op.phase == .scan || op.phase == .unlatched

/-- An operation and the position it may find: one that a part reset has ended keeps only a phase that runs out or a
drive, and no position (R46). -/
def Operation.placeOk (op : Operation) (position : Option Nat) : Bool :=
  if op.resetting then
    position.isNone && op.requester == .internal && op.suspended.isNone &&
      (op.drive.isSome || op.phase == .lift || op.phase == .drop || op.phase == .settle)
  else position.isSome || !op.needsPlace

/-- What the deck's state says of its tray and its position: no tray in ABSENT, no position in UNHOMED and in a FAULT of
kind DRIVE or INDEX, a position in IDLE, and a LOADED gate at the slot of the position (R27, R29, R35, R43). -/
def Deck.placeOk (x : Deck) : Bool :=
  match x.state with
  | .absent => x.map.isNone && x.position.isNone
  | .unhomed _ => x.map.isSome && x.position.isNone
  | .idle (.loaded k) => x.map.isSome && x.position == some k
  | .idle .empty => x.map.isSome && x.position.isSome
  | .busy op => x.map.isSome && op.placeOk x.position
  | .fault .jam => x.map.isSome
  | .fault _ => x.map.isSome && x.position.isNone

/-- The laws of a deck: a tray of 64 or 100 positions with a record of each (R1), a position below T (R30), and a state
that agrees with both. -/
abbrev Deck.Ok (x : Deck) : Prop :=
  (∀ m ∈ x.map, (m.size = 64 ∨ m.size = 100) ∧ m.slots.length = m.size) ∧
  (∀ p ∈ x.position, ∀ m ∈ x.map, p < m.size) ∧ x.placeOk = true

/-- The laws of a lamp: no output above the grant, and no grant unless it is LIT (R118, R119). -/
abbrev Lamp.Ok (l : Lamp) : Prop := l.output ≤ l.granted ∧ (l.isLit = false → l.granted = 0)

/-- A commit that waits finds room for its run (R22, R23). -/
def Pres.commitOk (p : Pres) : Bool :=
  match p.edit with
  | .deferred _ run t _ => decide (1 ≤ t ∧ t ≤ p.frames.length + 1 ∧ t + run.length ≤ 201)
  | _ => true

/-- The laws of the show: at most 200 frames, none presented or transitioned to above the count (R5, R10, R25), and room
for a commit that waits. -/
abbrev Pres.Ok (p : Pres) : Prop :=
  p.frames.length ≤ Config.maxFrames ∧ p.current ≤ p.frames.length ∧
  (∀ t ∈ p.transition, t.target ≤ p.frames.length) ∧ p.commitOk = true

/-- The laws of the cue map: counts strictly increase, and it holds at most 256 entries (R158). -/
abbrev Tape.MapOk (t : Tape) : Prop :=
  t.map.Pairwise (fun a b => a.count < b.count) ∧ t.map.length ≤ Config.cueMapEntries

/-- The laws of the cursor: its index and its field exist in its table (R203). -/
def Cursor.placeOk (c : Cursor) : Bool :=
  match c.table with
  | .frame => decide (1 ≤ c.index ∧ c.index ≤ 200 ∧ c.field < 7)
  | .slotA | .slotB => decide (c.index ≤ 99 ∧ c.field < 4)
  | .position => decide (c.index = 0 ∧ c.field < 13)

/-- The laws of the blocks: of each deck, each lamp, the show, the cue map and the link's cursor, and the two grants
within the heat budget of the zone in force (R118). -/
abbrev Blocks.Ok (b : Blocks) : Prop :=
  b.deckA.Ok ∧ b.deckB.Ok ∧ b.lampA.Ok ∧ b.lampB.Ok ∧ b.lampA.granted + b.lampB.granted ≤ b.lcu.zone.budget ∧
  b.pres.Ok ∧ b.tape.MapOk ∧ b.link.cursor.placeOk = true

/-- A good state. -/
abbrev State.Ok (s : State) : Prop := s.OuterOk ∧ s.blk.Ok

/-! ## What a command leaves behind -/

/-- The state once a command of code `code` has been taken and answered at one event: its response has joined the
outgoing queue and no place stays reserved for it (R210, R211, R218). -/
def State.answered (s : State) (code : Nat) (tag : Byte) (status : Status) (fields : List Byte) : State :=
  { s with port := { s.port with
      out := s.port.out ++ responseRun code tag status fields
      nextId := s.port.nextId + 1 } }

/-- The state once a command has been taken whose answer is withheld: its places are reserved (R210, R211). -/
def State.withheld (s : State) (code : Nat) (tag : Byte) : State := { s with port := s.port.reserve code tag }

/-- The ticket that the next command taken will have. -/
def State.ticket (s : State) (tag : Byte) : Ticket := s.port.nextTicket tag

/-- An event has been raised and has met admission (R212). -/
def State.raised (s : State) (code : EventCode) (fields : List Byte) : State :=
  { s with port := s.port.admitEvent (eventRecord code fields) }

/-- A good state in which a command of code `code` may be taken (R210). -/
abbrev State.Takes (s : State) (code : Nat) : Prop := s.Ok ∧ s.takeable code = true

/-! ## Changes of one block -/

def State.setPres (s : State) (f : Pres → Pres) : State := { s with blk := { s.blk with pres := f s.blk.pres } }

def State.setTape (s : State) (f : Tape → Tape) : State := { s with blk := { s.blk with tape := f s.blk.tape } }

def State.setLcu (s : State) (f : Lcu → Lcu) : State := { s with blk := { s.blk with lcu := f s.blk.lcu } }

def State.setDeck (s : State) (d : DeckId) (f : Deck → Deck) : State :=
  { s with blk := s.blk.setDeck d (f (s.blk.deck d)) }

def State.setLamp (s : State) (d : DeckId) (f : Lamp → Lamp) : State :=
  { s with blk := s.blk.setLamp d (f (s.blk.lamp d)) }

/-- The lamp has been asked for a ramp from its output to a level over a time (R117). -/
def Lamp.rampedTo (l : Lamp) (level ms : Nat) : Lamp :=
  { l with commanded := level, ramp := some { start := l.output, target := level, total := ms, left := ms } }

/-- The granted request has ended (R78). -/
def Pres.ended (p : Pres) : Pres := { p with granted := none, levelWait := none, turnedOn := false }

/-- Frame `n` is the first without SKIP that a walk from the current frame comes to, by frames of the table alone
(R79, R80). -/
def Pres.firstOn (p : Pres) (next : Nat → Nat) (n : Nat) : Prop :=
  ∃ k, next^[k + 1] p.current = n ∧ 1 ≤ n ∧ n ≤ p.frames.length ∧ p.skips n = false ∧
    ∀ i < k, 1 ≤ next^[i + 1] p.current ∧ next^[i + 1] p.current ≤ p.frames.length ∧
      p.skips (next^[i + 1] p.current) = true

/-! ## States in which a report changes nothing further -/

/-- The presentation controller waits on nothing from deck `d`: no transition runs, no preload is on the deck, the deck
is not on screen, and no STOP sent to it is outstanding. -/
abbrev Blocks.unconcerned (b : Blocks) (d : DeckId) : Prop :=
  b.pres.transition = none ∧ (∀ r ∈ b.pres.preload, r.deck ≠ d) ∧ (∀ sc ∈ b.pres.screen, sc.deck ≠ d) ∧
  b.pres.stopped d = false

/-- No dark fade runs. -/
abbrev Blocks.noFade (b : Blocks) : Prop := b.lampA.fade = none ∧ b.lampB.fade = none

/-! ## Answers and regrants -/

/-- The host that asked for a deck operation is answered; another requester is owed no response (R28). -/
def Port.answeredTo (p : Port) (r : Requester) (status : Status) (fields : List Byte) : Port :=
  match r with
  | .host t => p.deliverAnswer t status fields
  | _ => p

/-- Several commands are answered alike, in order, with no result fields. -/
def Port.answeredAll (p : Port) (ts : List Ticket) (status : Status) : Port :=
  ts.foldl (fun p t => p.deliverAnswer t status []) p

/-- `t` is `s` but for what follows from a change of a lamp's state: the grants and outputs of the two lamps and the
fan's speed and watch (R118, R125). -/
abbrev State.Regranted (s t : State) : Prop :=
  t = { s with blk := { s.blk with
    lampA := { s.blk.lampA with granted := t.blk.lampA.granted, output := t.blk.lampA.output }
    lampB := { s.blk.lampB with granted := t.blk.lampB.granted, output := t.blk.lampB.output }
    lcu := { s.blk.lcu with fan := t.blk.lcu.fan, fanWatch := t.blk.lcu.fanWatch, tachSeen := t.blk.lcu.tachSeen } } }

/-! ## The command a slot spells -/

/-- The row of the opcode table that the 32 bytes of a command slot spell: the code in byte 0, the tag in byte 1 and the
arguments from byte 3, one byte each, a tape count or a map entry in two, the most significant first (11.2). -/
def ringCommand (r : Record) : Option Instr :=
  let t := slotByte r 1
  let b (k : Nat) : Byte := slotByte r (3 + k)
  let w (k : Nat) : BitVec 16 := BitVec.ofNat 16 ((b k).toNat * 256 + (b (k + 1)).toNat)
  match (slotByte r 0).toNat with
  | 0x10 => some (.slotRead t (b 0) (b 1) (b 2))
  | 0x11 => some (.frameRead t (b 0) (b 1))
  | 0x12 => some (.editOpen t (b 0) (b 1))
  | 0x13 => some (.editSet t (b 0) (b 1) (b 2))
  | 0x14 => some (.editCommit t (b 0))
  | 0x15 => some (.editCancel t)
  | 0x16 => some (.setFrameCount t (b 0))
  | 0x17 => some (.layout t (b 0))
  | 0x20 => some (.deckHome t (b 0))
  | 0x21 => some (.deckCensus t (b 0))
  | 0x22 => some (.deckRelease t (b 0))
  | 0x23 => some (.deckService t (b 0) (b 1))
  | 0x24 => some (.deckClear t (b 0))
  | 0x25 => some (.deckStatus t (b 0))
  | 0x26 => some (.setDeckOptions t (b 0) (b 1))
  | 0x28 => some (.slotMark t (b 0) (b 1))
  | 0x29 => some (.slotReload t (b 0) (b 1))
  | 0x2A => some (.compareRead t)
  | 0x30 => some (.advance t)
  | 0x31 => some (.reverse t)
  | 0x32 => some (.goto t (b 0))
  | 0x33 => some (.dark t (b 0))
  | 0x34 => some (.setMode t (b 0))
  | 0x35 => some (.setPairing t (b 0))
  | 0x36 => some (.setLoop t (b 0) (b 1) (b 2))
  | 0x37 => some (.setDefaultClass t (b 0))
  | 0x38 => some (.setMasterLevel t (b 0))
  | 0x39 => some (.getPosition t)
  | 0x40 => some (.lampOn t (b 0))
  | 0x41 => some (.lampOff t (b 0))
  | 0x42 => some (.lampReplaced t (b 0))
  | 0x43 => some (.lampStatus t (b 0))
  | 0x44 => some (.thermalRead t)
  | 0x45 => some (.standby t)
  | 0x46 => some (.wake t)
  | 0x50 => some (.tapePlay t)
  | 0x51 => some (.tapeStop t)
  | 0x52 => some (.tapePause t)
  | 0x53 => some (.tapeResume t)
  | 0x54 => some (.tapeWind t (b 0))
  | 0x55 => some (.tapeZero t)
  | 0x56 => some (.setCueOptions t (b 0) (b 1))
  | 0x57 => some (.cueTakeHeld t)
  | 0x58 => some (.cueDiscardHeld t)
  | 0x59 => some (.cueInsert t (b 0) (b 1))
  | 0x5A => some (.cueMapRead t (w 0) (b 2))
  | 0x5B => some (.cueMapLoad t (w 0) (b 2) (b 3) (b 4) (b 5))
  | 0x5C => some (.cueMapClear t)
  | 0x5D => some (.soundLevel t (b 0))
  | 0x5E => some (.soundMute t (b 0))
  | 0x5F => some (.tapeStatus t)
  | 0x60 => some (.setPhases t ((r.drop 3).take 16))
  | 0x61 => some (.setAuthority t (b 0) (b 1) (b 2) (b 3) (b 4))
  | 0x62 => some (.setRangeLock t (b 0) (b 1) (b 2))
  | 0x63 => some (.setLockHold t (b 0))
  | 0x64 => some (.arbiterStatus t)
  | 0x68 => some (.setRemote t (b 0) (b 1) (b 2))
  | 0x6A => some (.setLink t (b 0) (b 1))
  | 0x6B => some (.linkStatus t)
  | 0x70 => some (.abort t (b 0))
  | 0x71 => some (.commandStatus t (b 0))
  | _ => none

end Sys2Proof.Machine
end

