-- ==== Sys2Proof/Certificates/Slice0/Obligations.lean ====
section
/-! DEFINITION. The statements for the provers. -/

open Sys2Proof Sys2Proof.Machine

/-! ## The step -/

/-- A step on a queue that holds commands is the front command's meaning on the rest. -/
def Obligations.StepRunsFrontCommand : Prop :=
  ∀ (s : State) (c : Instr) (rest : List Instr), s.pending = c :: rest →
    step s = exec c { s with pending := rest }

/-- Model's choice (log 2, 3): on an empty queue the part takes the first of its own due steps, and one millisecond
passes when none is due. -/
def Obligations.EmptyQueueStep : Prop :=
  ∀ s : State, s.pending = [] →
    (∀ i rest, s.dueSteps = i :: rest → step s = exec i s) ∧
    (s.dueSteps = [] → step s = .next { s with blk := s.blk.tick })

/-- Every term that spells a command has a next state, with the queue of waiting commands as it was, and no command is
refused. Model's choice (log 12): any other term is the fault illFormed. -/
def Obligations.EveryCommandHasItsEffect : Prop :=
  ∀ (c : Instr) (s : State),
    (WellFormed c = true → ∃ t, exec c s = .next t ∧ t.pending = s.pending) ∧
    (WellFormed c = false → exec c s = .fault .illFormed)

/-- The state after a power-on reset is a good state: every law that StepKeepsGood names holds in it. -/
def Obligations.ResetIsGood : Prop := State.reset.Ok

/-- Every step keeps the laws of a good state. The port: eight slots in each ring, at most 24 places used and reserved.
The arbiter: four bounded queues of their own sources, phase tables that name CPORT, authority tables. Each deck: a tray
of 64 or 100 slot records, a position below T, and a state that agrees with them (a LOADED gate at the slot of the
position, no tray in ABSENT, no position in UNHOMED). Each lamp: no output above its grant, no grant unless LIT, and the
two grants within the heat budget of the zone in force. The show: at most 200 frames, neither the current frame nor a
target above the count. The cue map: strictly increasing counts, at most 256 entries. The link: a cursor that stands at
a field of its table, and a held read that still waits. Model's own (log 32): the commands that wait for an answer are
told apart. -/
def Obligations.StepKeepsGood : Prop :=
  ∀ s t : State, s.Ok → step s = .next t → t.Ok

/-! ## Command port -/

/-- The host's transactions. GIVE_CMD: the slot at the give pointer passes to the part, or is discarded when it is
part-owned. WRITE_CMD_SLOT: 32 bytes go into a host-owned slot; a part-owned slot, a slot index above 7 or a transaction
cut short leaves every slot as it was. RETURN_RSP: the slot at the return pointer passes to the part as an empty slot,
filled or not, or is discarded when it is part-owned. READ_PORT_STATUS: the summary and the ten bytes of the port status
as they stand are shifted out, and both notify causes are cleared. -/
def Obligations.PortTransactions : Prop :=
  (∀ (s : State) (x : CmdSlot), s.port.cmd[s.port.give.val]? = some x →
    exec .giveCmd s = .next { s with port :=
      if x.partOwned then { s.port with dataOut := [s.port.summary] }
      else { s.port with
        cmd := s.port.cmd.set s.port.give.val { x with partOwned := true }
        give := s.port.give + 1
        lastNotify := (slotByte x.bytes 2).getLsbD 0
        dataOut := [s.port.summary] } }) ∧
  (∀ (s : State) (slot : Byte) (bytes : List Byte), s.Ok →
    let shifted : Port := { s.port with dataOut := s.port.summary :: List.replicate (bytes.length + 1) 0 }
    (∀ x, s.port.cmd[slot.toNat]? = some x → x.partOwned = false → bytes.length = 32 →
      exec (.writeCmdSlot slot bytes) s =
        .next { s with port := { shifted with cmd := s.port.cmd.set slot.toNat { x with bytes := bytes } } }) ∧
    (∀ x, s.port.cmd[slot.toNat]? = some x → x.partOwned = true → bytes.length ≤ 32 →
      exec (.writeCmdSlot slot bytes) s = .next { s with port := shifted }) ∧
    (8 ≤ slot.toNat ∧ bytes.length ≤ 32 → exec (.writeCmdSlot slot bytes) s = .next { s with port := shifted }) ∧
    (bytes.length < 32 → exec (.writeCmdSlot slot bytes) s = .next { s with port := shifted })) ∧
  (∀ (s : State) (x : RspSlot), s.port.rsp[s.port.ret.val]? = some x →
    exec .returnRsp s = .next { s with port :=
      if x.partOwned then { s.port with dataOut := [s.port.summary] }
      else { s.port with
        rsp := s.port.rsp.set s.port.ret.val { x with partOwned := true, filled := false }
        ret := s.port.ret + 1
        dataOut := [s.port.summary] } }) ∧
  (∀ s : State, exec .readPortStatus s = .next { s with port := { s.port with
    dataOut := [s.port.summary, bitsOf (s.port.cmd.map fun x => x.partOwned),
      byte (16 * s.port.give.val + s.port.take.val), s.stall,
      bitsOf (s.port.rsp.map fun x => x.partOwned), bitsOf (s.port.rsp.map fun x => x.filled),
      byte (16 * s.port.fill.val + s.port.ret.val), byte s.port.out.length, byte s.port.reserved, byte s.port.lost,
      byte ((if s.port.cmdSpace then 2 else 0) + if s.port.rspReady then 1 else 0)]
    cmdSpace := false
    rspReady := false } })

/-- RECORD_TO_RESPONSE_RING: the head record moves into the slot at the fill pointer, when that slot is part-owned. An
event record takes the lost count with it and the count becomes 0; any other record moves as it is. RSP_READY becomes
set when no filled host-owned slot stood before. -/
def Obligations.RecordToResponseRing : Prop :=
  ∀ (s : State) (r : Record) (rest : List Record) (x : RspSlot), s.port.out = r :: rest →
    s.port.rsp[s.port.fill.val]? = some x →
    (x.partOwned = true →
      exec .recordToResponseRing s = .next { s with port := { s.port with
        out := rest
        rsp := s.port.rsp.set s.port.fill.val
          { bytes := if slotByte r 0 = 2 then r.set 2 (byte s.port.lost) else r, partOwned := false, filled := true }
        fill := s.port.fill + 1
        lost := if slotByte r 0 = 2 then 0 else s.port.lost
        rspReady := s.port.rspReady || s.port.filledSlots == 0 } }) ∧
    (x.partOwned = false → exec .recordToResponseRing s = .next s)

/-- TAKE_COMMAND: when the slot at the take pointer is part-owned and its command may be taken, the slot goes back to
the host, the take pointer advances, CMD_SPACE becomes set if all eight slots were part-owned and the slot given last
asked for it, and the command that the slot spells runs; bytes that spell none are answered BAD_ARGUMENT. While a
condition fails nothing changes. -/
def Obligations.TakeCommand : Prop :=
  ∀ s : State, s.Ok →
    let r := s.port.takeSlot.bytes
    let released : State := { s with port := { s.port with
      cmd := s.port.cmd.set s.port.take.val { s.port.takeSlot with partOwned := false }
      take := s.port.take + 1
      cmdSpace := s.port.cmdSpace || (s.port.hostCmdSlots == 0 && s.port.lastNotify) } }
    (s.port.takeSlot.partOwned = true ∧ s.takeable (slotByte r 0).toNat = true →
      (∀ c, ringCommand r = some c → exec .takeCommand s = exec c released) ∧
      (ringCommand r = none → exec .takeCommand s =
        .next (released.answered (slotByte r 0).toNat (slotByte r 1) .badArgument []))) ∧
    (s.port.takeSlot.partOwned = false ∨ s.takeable (slotByte r 0).toNat = false → exec .takeCommand s = .next s)

/-- POWER_ON_RESET: every record at its power-on value, every pin as it stands; each value is spelled. Model's choice:
the bytes held in the slots and the notify request flag of the slot given last stay (log 11), a deck with no tray seated
owes no census (log 83), and the mark of a replaced lamp is cleared (log 67). -/
def Obligations.PowerOnReset : Prop :=
  ∀ s : State,
    let fresh (size : TraySize) : TrayMap :=
      let n := match size with | .short => 64 | .long => 100
      { size := n
        slots := { presence := .empty, faults := 0, pass := none } ::
          List.replicate (n - 1) { presence := .unknown, faults := 0, pass := none } }
    let deck (x : Deck) : Deck :=
      { state := if x.seated then .unhomed 1000 else .absent
        map := if x.seated then some (fresh x.sizeCode) else none
        position := none, inService := true, censusOnLoad := true, censusOwed := x.seated, slips := 0, pass := 0
        latchClosed := x.seated, gateMade := x.gateMade, seated := x.seated, sizeCode := x.sizeCode
        indexMade := x.indexMade, slotPresent := x.slotPresent }
    let lamp : Lamp :=
      { state := .off, active := .primary, primary := .good, spare := .good, commanded := 0, granted := 0, output := 0
        ramp := none, claim := false, fade := none, attempts := 0, relightOwed := false, unlit := false
        inhibit := some 3000, onWaiting := [], offWaiting := [] }
    let sensor : Sensor := { reading := none, silent := false, quiet := 0 }
    let lcu : Lcu :=
      { priority := .a, sensor0 := sensor, sensor1 := sensor, sensor2 := sensor, readingZone := .normal, fan := .full
        fanWatch := some 2000, tachSeen := false, fanFault := false, clearing := 0, startupHold := true
        power := .active, standbyWaiting := [], sinceExtinguish := 0 }
    let pres : Pres :=
      { frames := [], current := 0, screen := none, service := .normal, blackout := false, master := 100
        defaultClass := 2, cut := false, hold := .absent, loopStart := 1, loopEnd := 1, loopOn := false, mode := .setup
        pairing := .alternate, granted := none, levelWait := none, turnedOn := false, preload := none
        preloadHeld := false, transition := none, frozen := false, stopA := false, stopB := false, orderA := none
        orderB := none, censusA := false, censusB := false, mismatch := none, edit := .closed }
    let tape (x : Tape) : Tape :=
      { transport := if x.present then .stopped else .noTape, leader := if x.leaderMade then .head else .none
        pausePending := false, pauseWaiting := [], runOut := none, count := 0, wound := true, pass := none
        watch := none, motionWaiting := none, expected := none, policy := .follow, chase := true, held := none
        mark := none, lastCue := none, taken := 0, duplicates := 0, missed := 0, bad := 0, undelivered := 0
        writing := none, holding := none, map := [], setLevel := 20, mute := false, output := 20, present := x.present
        leaderMade := x.leaderMade }
    let remote (x : Remote) : Remote :=
      { irEnable := true, wiredEnable := true, channel := 0, digits := [], entryTimer := none, ir := none
        irRelease := none, fwd := none, rev := none, darkHeld := false, fwdActive := x.fwdActive
        revActive := x.revActive, darkActive := x.darkActive }
    let link : Link :=
      { station := 0, group8 := false, group9 := false, group10 := false, group11 := false, assembly := none
        overrun := false, readSelect := .status, cursor := { table := .frame, index := 1, field := 0, step := false }
        cursorResult := none, requestResult := none, outstanding := 0, formatErrors := 0, readHold := none, ack := none
        reply := [] }
    let row (edit : Bool) : Authority := { motion := true, level := true, edit := edit, tape := true }
    let arb : Arbiter :=
      { cport := [], link := [], remote := [], cue := []
        phases := (List.replicate 4 [some .cport, some .cue, some .link, some .remote]).flatten, pointer := 0
        authority := { cport := row true, link := row false, remote := row false, cue := row false }
        lock := { lo := 0, hi := 0, invert := false }, pendingPhases := none, pendingAuthority := none
        pendingLock := none, lockHold := false, key := s.arb.key }
    exec .powerOnReset s = .next { s with
      port := { s.port with
        cmd := s.port.cmd.map fun x => { x with partOwned := false }
        rsp := s.port.rsp.map fun x => { x with partOwned := false, filled := false }
        give := 0, take := 0, fill := 0, ret := 0, out := [], unanswered := [], lost := 0
        cmdSpace := false, rspReady := false }
      arb := arb
      blk := {
        deckA := deck s.blk.deckA, deckB := deck s.blk.deckB, lampA := lamp, lampB := lamp, lcu := lcu, pres := pres
        tape := tape s.blk.tape, remote := remote s.blk.remote, link := link } }

/-- PART_RESET with no dark fade running: the port is emptied and nothing is answered, the queues and pending tables are
gone, and the show position, the tape unit, the remote receiver and the link port take their part-reset values. The
lamps are OFF at 0 with their inhibit running when they burned; a changer's move runs on, and a DEAD lamp stays DEAD. A
deck UNHOMED, IDLE, or BUSY with nothing moving begins a self-HOME: in SEEK_INDEX, or with a LIFT in darkness when the
gate sensor reads made. A deck BUSY in LIFT, DROP or SETTLE, or with its drive running, lets that run to its end with
its operation dropped; a FAULT stays, with the position of a JAM alone. Model's choice: the slot bytes and the notify
flag stay (log 11), the latch of an ABSENT deck closes and an operation that runs out keeps its kind (log 18), the port,
the arbiter, the records, the lamps and the decks are reset in that order (log 50), and the mark of a replaced lamp is
kept (log 67). -/
def Obligations.PartReset : Prop :=
  ∀ s : State, s.blk.lampA.fade = none → s.blk.lampB.fade = none →
    let homing (x : Deck) : Deck := { x with
      latchClosed := true, position := none
      state := .busy { Operation.new .home 0 .internal true with
        phase := if x.gateMade then .lift else .seekIndex
        drive := if x.gateMade then none else some .forward
        watch := some (if x.gateMade then 500 else 250) } }
    let dropped (x : Deck) (op : Operation) : Deck := { x with
      latchClosed := true, position := none
      state := .busy { Operation.new op.kind op.target .internal false with
        phase := op.phase, drive := op.drive, watch := op.watch, resetting := true } }
    let runsOut (op : Operation) : Bool :=
      op.drive.isSome || op.phase == .lift || op.phase == .drop || op.phase == .settle
    let deckAfter (x : Deck) : Deck := match x.state with
      | .absent | .fault .jam => { x with latchClosed := true }
      | .fault _ => { x with latchClosed := true, position := none }
      | .unhomed _ | .idle _ => homing x
      | .busy op => if runsOut op then dropped x op else homing x
    let claimAfter (x : Deck) (claim : Bool) : Bool := match x.state with
      | .absent | .fault _ => claim
      | .unhomed _ | .idle _ => x.gateMade
      | .busy op => if runsOut op then claim else x.gateMade
    let burning (x : Lamp) : Bool := match x.state with | .lit | .striking .. => true | _ => false
    let lampAfter (x : Lamp) (claim : Bool) : Lamp := { x with
      state := match x.state with | .swapping _ n => .swapping .off n | .dead => .dead | _ => .off
      commanded := 0, granted := 0, output := 0, ramp := none, claim := claim, attempts := 0, relightOwed := false
      inhibit := if burning x then some 3000 else x.inhibit, onWaiting := [], offWaiting := [] }
    ∃ t, exec .partReset s = .next t ∧
      t.port = { s.port with
        cmd := s.port.cmd.map fun x => { x with partOwned := false }
        rsp := s.port.rsp.map fun x => { x with partOwned := false, filled := false }
        give := 0, take := 0, fill := 0, ret := 0, out := [], unanswered := [], lost := 0
        cmdSpace := false, rspReady := false, dataOut := [s.port.summary] } ∧
      t.arb = { s.arb with
        cport := [], link := [], remote := [], cue := [], pointer := 0, pendingPhases := none, pendingAuthority := none
        pendingLock := none } ∧
      t.blk.pres = { Pres.reset with
        frames := s.blk.pres.frames, pairing := s.blk.pres.pairing, loopStart := s.blk.pres.loopStart
        loopEnd := s.blk.pres.loopEnd, loopOn := s.blk.pres.loopOn, defaultClass := s.blk.pres.defaultClass
        censusA := s.blk.pres.censusA, censusB := s.blk.pres.censusB, mismatch := s.blk.pres.mismatch } ∧
      t.blk.tape = { s.blk.tape with
        transport := match s.blk.tape.transport with | .noTape => .noTape | _ => .stopped
        pausePending := false, pauseWaiting := [], runOut := none, pass := none, watch := none, motionWaiting := none
        expected := none, held := none, writing := none, holding := none
        map := match s.blk.tape.writing with
          | some x => if x.inMap then s.blk.tape.map.dropLast else s.blk.tape.map
          | none => s.blk.tape.map
        output := if s.blk.tape.mute then 0 else s.blk.tape.setLevel } ∧
      t.blk.remote = { s.blk.remote with
        digits := [], entryTimer := none, ir := none, irRelease := none, fwd := none, rev := none, darkHeld := false } ∧
      t.blk.link = { s.blk.link with
        assembly := none, overrun := false, outstanding := 0, readHold := none, reply := [] } ∧
      t.blk.deckA = deckAfter s.blk.deckA ∧ t.blk.deckB = deckAfter s.blk.deckB ∧
      t.blk.lampA = lampAfter s.blk.lampA (claimAfter s.blk.deckA s.blk.lampA.claim) ∧
      t.blk.lampB = lampAfter s.blk.lampB (claimAfter s.blk.deckB s.blk.lampB.claim) ∧
      t.blk.lcu = { s.blk.lcu with
        priority := .a, standbyWaiting := []
        sinceExtinguish := if burning s.blk.lampA ∨ burning s.blk.lampB then 0 else s.blk.lcu.sinceExtinguish
        fan := t.blk.lcu.fan, fanWatch := t.blk.lcu.fanWatch, tachSeen := t.blk.lcu.tachSeen } ∧
      t.pending = s.pending

/-- COMMAND_STATUS is answered OK at once and changes no record: WAITING with the place in the CPORT queue, IN_PROGRESS
with the phase its owner reports, or NOT_FOUND. The owners report: of a deck command the phase of its operation, or HOME
during an automatic HOME; of a granted request the presentation state; DEFERRED of a commit that waits; PENDING of a
pending copy; COOLDOWN of a STANDBY; of a LAMP_ON or LAMP_OFF the lamp state; PAUSE_PENDING of a TAPE_PAUSE; HOLDING or
WRITING of a CUE_INSERT; of a command that waits for the first tach pulse the transport state. Model's choice: the
layout of the result bytes (log 6), the codes of the phases that no list of the manual gives (log 7), and places that
count from 1 at the head of the queue (log 99). -/
def Obligations.CommandStatus : Prop :=
  ∀ (s : State) (tag target : Byte), s.Takes 0x71 →
    let found := s.port.unanswered.find? fun x => x.ticket.tag == target
    let place (id : Nat) : Option Nat :=
      s.arb.cport.findIdx? fun r => match r.ticket with | some t => t.id == id | none => false
    let isFor (id : Nat) (t : Option Ticket) : Bool := match t with | some t => t.id == id | none => false
    let among (id : Nat) (ts : List Ticket) : Bool := ts.any fun t => t.id == id
    let running (id : Nat) (x : Deck) : Option Operation := match x.state with
      | .busy op => match (match op.suspended with | some y => y.requester | none => op.requester) with
        | .host t => if t.id = id then some op else none
        | _ => none
      | _ => none
    let operation (op : Operation) : Byte :=
      if op.suspended.isSome then Config.unplacedCode .phaseHome else match op.phase with
        | .lift => 0 | .rotate => 1 | .drop => 2 | .settle => 3 | .seekIndex => 4 | .scan => 5 | .unlatched => 6
    let p := s.blk.pres
    let x := s.blk.tape
    let lamp (l : Lamp) : Byte := match l.state with
      | .off => 0 | .inhibit => 1 | .striking .. => 2 | .lit => 3 | .swapping .. => 4 | .dead => 5
    let phase (id : Nat) : Byte := match running id s.blk.deckA, running id s.blk.deckB with
      | some op, _ => operation op
      | none, some op => operation op
      | none, none =>
        if p.granted.any fun r => isFor id r.ticket then
          if p.frozen then 5 else match p.transition with
            | none => if p.current = 0 then 0 else 1
            | some t => match t.stand with | .pending => 2 | .crossing _ => 3 | _ => 4
        else if (match p.edit with | .deferred _ _ _ t => t.id == id | _ => false) then
          Config.unplacedCode .phaseDeferred
        else if (s.arb.pendingPhases.any fun y => y.ticket.id == id) ||
            (s.arb.pendingAuthority.any fun y => among id (y.waiting.map fun z => z.ticket)) ||
            (s.arb.pendingLock.any fun y => y.ticket.id == id) then Config.unplacedCode .phasePending
        else if among id s.blk.lcu.standbyWaiting then 1
        else if among id s.blk.lampA.onWaiting || among id s.blk.lampA.offWaiting then lamp s.blk.lampA
        else if among id s.blk.lampB.onWaiting || among id s.blk.lampB.offWaiting then lamp s.blk.lampB
        else if among id x.pauseWaiting then Config.unplacedCode .phasePausePending
        else if x.holding.any fun c => isFor id c.ticket then 0
        else if x.writing.any fun y => isFor id y.cue.ticket then 1
        else match x.transport with
          | .noTape => 0 | .stopped => 1 | .playing => 2 | .recording => 3 | .paused _ => 4 | .windingFwd => 5
          | .windingRev => 6
    (found = none → exec (.commandStatus tag target) s = .next (s.answered 0x71 tag .ok [2, 255])) ∧
    (∀ x k, found = some x → place x.ticket.id = some k →
      exec (.commandStatus tag target) s = .next (s.answered 0x71 tag .ok [0, byte (k + 1)])) ∧
    (∀ x, found = some x → place x.ticket.id = none →
      exec (.commandStatus tag target) s = .next (s.answered 0x71 tag .ok [1, phase x.ticket.id]))

/-- ABORT hands the command that it finds to its owner, and its own OK joins after what the owner answers. Waiting in
the CPORT queue it loses its entry and is answered ABORTED. A DECK_HOME, a DECK_CLEAR and a command without an abort
rule run on; a DECK_CENSUS and a DECK_RELEASE hold the ABORT until their phase ends, but an UNLATCHED tray is latched
again, IDLE and EMPTY, and the DECK_RELEASE answered ABORTED. A granted request runs on where no transition runs for it
or its transition is past its point of no return. In PENDING its serving deck is sent a STOP and the transition ends,
ABORTED with the frame and the service state as they stand; while FROZEN it ends so without a STOP, in CHANGING before
its CHANGE too. A fade-out turns back to the level of the current frame over half the class time, and a CHANGE is
ordered back to the slot on screen, or, while FROZEN, will be; both keep their answer withheld. A CUE_INSERT whose word
is the holding word is answered ABORTED and the word is gone. An ABORT that finds no command is answered NOT_FOUND. The
EDIT_COMMIT that waits is EditBuffer's, and the end of a held ABORT is SlotPulse's. Model's choice (log 59): a
transition that ends so leaves the deck on screen there, whatever its gate holds and at the level last commanded. -/
def Obligations.Abort : Prop :=
  ∀ (s : State) (tag target : Byte), s.Takes 0x70 →
    let found := s.port.unanswered.find? fun x => x.ticket.tag == target
    let p := s.blk.pres
    let done : State := s.answered 0x70 tag .ok []
    let aborted (x : Taken) (fields : List Byte) : State := { s with port := { s.port with
      unanswered := s.port.unanswered.eraseP fun y => y.ticket.id == x.ticket.id
      out := s.port.out ++ responseRun x.code x.ticket.tag .aborted fields ++ responseRun 0x70 tag .ok []
      nextId := s.port.nextId + 1 } }
    (found = none → exec (.abort tag target) s = .next (s.answered 0x70 tag .notFound [])) ∧
    (∀ x k, found = some x → s.queuePlace x.ticket.id = some k →
      exec (.abort tag target) s = .next { aborted x [] with
        arb := { s.arb with cport := s.arb.cport.filter fun r => !optTicketIs r.ticket x.ticket.id } }) ∧
    (∀ x, found = some x → s.queuePlace x.ticket.id = none →
      let noDeck : Prop := s.blk.deckA.runsFor x.ticket.id = none ∧ s.blk.deckB.runsFor x.ticket.id = none
      (∀ d op, (s.blk.deck d).runsFor x.ticket.id = some op → (s.blk.deck d.other).runsFor x.ticket.id = none →
        let kind := match op.suspended with | some y => y.kind | none => op.kind
        (kind = .home → exec (.abort tag target) s = .next done) ∧
        (kind = .census ∨ (kind = .release ∧ op.phase ≠ .unlatched) → exec (.abort tag target) s =
          .next (done.setDeck d fun y => { y with state := .busy { op with abortHeld := true } })) ∧
        (kind = .release → op.phase = .unlatched → op.suspended = none → exec (.abort tag target) s =
          .next ((aborted x []).setDeck d fun y => { y with latchClosed := true, state := .idle .empty }))) ∧
      (∀ r, p.granted = some r → optTicketIs r.ticket x.ticket.id = true → r.source = .cport → noDeck →
        let fields : List Byte := [byte p.current, Service.code p.service] ++
          match r.kind with | .dark => [Bool.code p.blackout] | _ => []
        let ended (q : Pres) : Pres := { q.ended with transition := none }
        ((∀ t ∈ p.transition, t.past = true) → exec (.abort tag target) s = .next done) ∧
        (∀ t, p.transition = some t → t.past = false →
          (∀ d op, t.serving = some d → t.stand = .pending → p.frozen = false → p.commitDeferred = false →
            (p.pairing = .single ∨ p.current = 0) → p.stopped d = false → (s.blk.deck d).state = .busy op →
            (s.blk.deck d).changing = true → exec (.abort tag target) s =
              .next (((aborted x fields).setPres fun q => ended ((q.setOrder d none).setStop d true)).setDeck d fun y =>
                { y with state := .busy { op with stopHeld := true, retargetHeld := none } })) ∧
          (∀ d f, t.serving = some d → t.stand = .fadeOut → p.frozen = false → t.cls ≠ 0 → s.blk.noFade →
            (s.blk.lamp d).state = .lit → (s.blk.lamp d).claim = false → s.blk.lcu.priority = d →
            p.frame? p.current = some f →
            let full := f.level * p.master / 100
            let level := if p.blackout then 0 else if p.hold = .expired then min full 40 else full
            (s.blk.lamp d).output ≠ level → ∃ t', exec (.abort tag target) s = .next t' ∧
              State.Regranted ((done.setPres fun q => { q with
                transition := some { t with stand := .cancelFade } }).setLamp d fun l =>
                  l.rampedTo level (classMs t.cls / 2)) t') ∧
          (∀ sc op m, p.screen = some sc → t.stand = .change → p.frozen = false → p.stopped sc.deck = false →
            (s.blk.deck sc.deck).state = .busy op → (s.blk.deck sc.deck).map = some m → op.kind = .change →
            op.suspended = none → op.resetting = false → op.stage = 0 → op.stopEmpty = false → sc.slot < m.size →
            sc.slot ≠ op.target → (op.phase = .lift ∨ (op.phase = .rotate ∧ op.drive.isSome = true)) →
            exec (.abort tag target) s = .next ((done.setPres fun q => { q with
              transition := some { t with stand := .returnChange } }).setDeck sc.deck fun y =>
                { y with state := .busy { op with target := sc.slot } })) ∧
          (t.stand = .change → p.frozen = true → exec (.abort tag target) s = .next (done.setPres fun q =>
            { q with transition := some { t with stand := .returnChange } })) ∧
          ((t.stand = .pending ∨ t.stand = .fadeOut) → p.frozen = true → p.commitDeferred = false →
            exec (.abort tag target) s = .next ((aborted x fields).setPres fun q =>
              { ended q with frozen := decide (q.current ≠ 0) })))) ∧
      (noDeck → (∀ r ∈ p.granted, optTicketIs r.ticket x.ticket.id = false) → p.commitDeferred = false →
        (∀ c ∈ s.blk.tape.holding, optTicketIs c.ticket x.ticket.id = true → exec (.abort tag target) s =
          .next ((aborted x []).setTape fun y => { y with holding := none })) ∧
        ((∀ c ∈ s.blk.tape.holding, optTicketIs c.ticket x.ticket.id = false) →
          exec (.abort tag target) s = .next done)))

/-! ## Request arbiter -/

/-- ADVANCE, REVERSE, GOTO and DARK with arguments in range enter the tail of the CPORT queue, and the answer is
withheld; CPORT holds every authority and every mode admits it. A GOTO above 200 or a DARK argument above 2 is refused
BAD_ARGUMENT. -/
def Obligations.PresentationRequestsQueue : Prop :=
  ∀ (s : State) (tag frame arg : Byte),
    let queued (s : State) (code : Nat) (kind : Kind) (a : Option Nat) : State :=
      { s.withheld code tag with arb := { s.arb with
          cport := s.arb.cport ++ [{ source := .cport, kind := kind, arg := a, ticket := some (s.ticket tag) }] } }
    (s.Takes 0x30 → exec (.advance tag) s = .next (queued s 0x30 .advance none)) ∧
    (s.Takes 0x31 → exec (.reverse tag) s = .next (queued s 0x31 .reverse none)) ∧
    (s.Takes 0x32 → frame.toNat ≤ 200 → exec (.goto tag frame) s = .next (queued s 0x32 .goto (some frame.toNat))) ∧
    (s.Takes 0x32 → 200 < frame.toNat → exec (.goto tag frame) s = .next (s.answered 0x32 tag .badArgument [])) ∧
    (s.Takes 0x33 → arg.toNat ≤ 2 → exec (.dark tag arg) s = .next (queued s 0x33 .dark (some arg.toNat))) ∧
    (s.Takes 0x33 → 2 < arg.toNat → exec (.dark tag arg) s = .next (s.answered 0x33 tag .badArgument []))

/-- GRANT_OPPORTUNITY. With the controller not ready, with the encoder hold on, or with no named queue that holds an
entry and no pending copy, nothing changes (model's choice, log 5). Pending copies become active first, a phase table
with the pointer at 0, and the commands that wait on them are answered OK with what they loaded; the scan goes on from
there. Phases that are EMPTY or name an empty queue are passed over. A head that the show mode or the authority table no
longer admits leaves its queue, its source is answered, and the scan goes on where it stood. A head that they admit
leaves its queue and is granted, and the pointer moves to the next phase; a CUT or DISSOLVE from CUE then ends at once
with OK. Model's choice: the order of the answers at an activation (logs 81, 96), and the row's source in the answer of
a SET_AUTHORITY (log 95). -/
def Obligations.GrantOpportunity : Prop :=
  ∀ s : State, s.Ok →
    let a := s.arb
    let opportunity := exec .grantOpportunity s
    let named (k : Nat) : Option Source := (a.phases[(a.pointer + k) % 16]?).join
    let refused (src : Source) (r : Request) : Option Status :=
      let row := match src with
        | .cport => a.authority.cport | .link => a.authority.link | .remote => a.authority.remote
        | .cue => a.authority.cue
      let held := match r.kind with | .advance | .reverse | .goto | .chase => row.motion | _ => row.level
      if src = .cue ∧ s.blk.pres.mode ≠ .show then some .wrongMode else if held then none else some .noAuthority
    (s.open = false → opportunity = .next s) ∧
    (a.hasPending = false → (∀ src, some src ∈ a.phases → a.queue src = []) → opportunity = .next s) ∧
    (s.open = true → a.hasPending = true →
      let rowOf (t : AuthorityTable) (src : Source) : List Byte :=
        let r := match src with | .cport => t.cport | .link => t.link | .remote => t.remote | .cue => t.cue
        [Source.code src, Bool.code r.motion, Bool.code r.level, Bool.code r.edit, Bool.code r.tape]
      let answers : List (Ticket × List Byte) :=
        (a.pendingPhases.toList.map fun p => (p.ticket, p.table.map phaseCode)) ++
        (a.pendingAuthority.toList.flatMap fun p => p.waiting.map fun x => (x.ticket, rowOf p.table x.source)) ++
        (a.pendingLock.toList.map fun p => (p.ticket, [byte p.lock.lo, byte p.lock.hi, Bool.code p.lock.invert]))
      opportunity = exec .grantOpportunity { s with
        port := answers.foldl (fun p x => p.deliverAnswer x.1 .ok x.2) s.port
        arb := { a with
          phases := match a.pendingPhases with | some p => p.table | none => a.phases
          pointer := if a.pendingPhases.isSome then 0 else a.pointer
          authority := match a.pendingAuthority with | some p => p.table | none => a.authority
          lock := match a.pendingLock with | some p => p.lock | none => a.lock
          pendingPhases := none, pendingAuthority := none, pendingLock := none } }) ∧
    (s.open = true → a.hasPending = false →
      ∀ k src, k < 16 → named k = some src → (∀ i < k, ∀ e, named i = some e → a.queue e = []) →
      ∀ r q, a.queue src = r :: q →
      let rest : State := { s with arb := a.setQueue src q }
      let arb : Arbiter := { a.setQueue src q with pointer := (a.pointer + k + 1) % 16 }
      (∀ st, refused src r = some st →
        (src = .link → opportunity = exec .grantOpportunity ((rest.raised .linkRefused
            ([byte s.blk.link.station, Kind.code r.kind] ++ presentByte r.arg ++ [Status.code st])).modLink fun l =>
          { l with outstanding := l.outstanding - 1, requestResult := some { kind := r.kind, status := st } })) ∧
        (src = .remote → opportunity = exec .grantOpportunity (rest.raised .remoteRefused
          [match r.kind with | .advance => 0 | .reverse => 1 | .dark => 2 | _ => 14, Status.code st])) ∧
        (src = .cue → s.blk.tape.undelivered ≤ 255 → opportunity = exec .grantOpportunity (rest.setTape fun x =>
          { x with undelivered := min 255 (x.undelivered + 1) }))) ∧
      (refused src r = none →
        opportunity = .next (({ s with arb := arb } : State).run fun w => w.grant r) ∧
        (src = .cue → r.kind = .cut → opportunity = .next { s with
          arb := arb
          blk := { s.blk with
            pres := { s.blk.pres with cut := true }.ended
            tape := { s.blk.tape with lastCue := some { kind := .cut, status := .ok } } } }) ∧
        (src = .cue → r.kind = .dissolve → opportunity = .next { s with
          arb := arb
          blk := { s.blk with
            pres := { s.blk.pres with defaultClass := min 7 (r.arg.getD 0) }.ended
            tape := { s.blk.tape with lastCue := some { kind := .dissolve, status := .ok } } } })))

/-- What a granted request does when it moves no slide. A motion request from CPORT is answered WRONG_POWER_STATE
outside ACTIVE, BAD_ARGUMENT for a GOTO above the count, AT_START for a REVERSE at frame 0, and OK where its target is
the current frame, or no frame while none is presented; a GOTO of frame 0, or a walk that finds no frame, arrives in
EMPTY at once from a frame that is dark. A DARK that names the state that stands, or one while nothing is on screen, is
answered OK at once; with a slide on screen it ramps the lamp to the level that then holds over 0.5 s, and waits for
that ramp, or ends with it where it is complete at its request. A LEVEL from CUE sets the master level, 10 to 100, and
does alike outside blackout. Every answer of CPORT carries the frame and the service state, of a DARK the blackout too.
In PROGRAM mode with the transport not RECORDING the cue that an OK owes is UNRECORDED. -/
def Obligations.GrantedRequestEnds : Prop :=
  ∀ (s : State) (r : Request) (q : List Request), s.Ok → s.open = true → s.arb.hasPending = false →
    let p := s.blk.pres
    let opportunity := exec .grantOpportunity s
    let arb : Arbiter := { s.arb.setQueue r.source q with pointer := (s.arb.pointer + 1) % 16 }
    let taken : State := { s with arb := arb }
    let onScreen : Option DeckId := if p.current = 0 then none else p.screen.map fun sc => sc.deck
    let levelOf (master : Nat) (f : Frame) : Nat :=
      let full := f.level * master / 100
      if p.hold = .expired then min full 40 else full
    (∀ k, s.arb.phases[s.arb.pointer]? = some (some .cport) → s.arb.cport = r :: q → r.source = .cport →
      r.ticket = some k →
      let ends (status : Status) (fields : List Byte) (f : Pres → Pres) : State :=
        ({ taken with port := s.port.deliverAnswer k status fields } : State).setPres fun x => (f x).ended
      let owes (num arg : Nat) (t : State) : State :=
        if p.mode = .program then t.raised .unrecorded [byte num, byte arg] else t
      let place : List Byte := [byte p.current, Service.code p.service]
      let target : Nat := match r.kind with
        | .advance => p.advanceFrom p.current
        | .reverse => p.reverseFrom p.current
        | _ => r.arg.getD 0
      let owing : State → State := match r.kind with
        | .advance => owes 1 0
        | .reverse => owes 2 0
        | _ => owes 3 (r.arg.getD 0)
      ((r.kind = .advance ∨ r.kind = .reverse ∨ r.kind = .goto) →
        (s.blk.lcu.power ≠ .active → opportunity = .next (ends .wrongPowerState place id)) ∧
        (s.blk.lcu.power = .active →
          (r.kind = .goto → p.frames.length < r.arg.getD 0 → opportunity = .next (ends .badArgument place id)) ∧
          (r.kind = .reverse → p.current = 0 → opportunity = .next (ends .atStart place id)) ∧
          ((r.kind = .goto → r.arg.getD 0 ≤ p.frames.length) → (r.kind = .reverse → p.current ≠ 0) →
            (p.mode = .program → s.blk.tape.transport ≠ .recording) →
            (target = p.current → (target = 0 ∨ p.screen.isSome = true) →
              opportunity = .next (owing (ends .ok place id))) ∧
            (target = 0 → p.current ≠ 0 → p.screen = none → s.blk.lcu.zone ≠ .critical → p.commitDeferred = false →
              opportunity = .next (owing (ends .ok [0, 0] fun x => { x with
                current := 0, service := .normal, hold := .absent, transition := none, cut := false, preload := none
                preloadHeld := false })))))) ∧
      (r.kind = .dark →
        let on : Bool := match r.arg.getD 0 with | 0 => false | 1 => true | _ => !p.blackout
        let fields : List Byte := place ++ [Bool.code on]
        (p.mode = .program → s.blk.tape.transport ≠ .recording) →
        (on = p.blackout → opportunity = .next (ends .ok fields id)) ∧
        (on ≠ p.blackout → onScreen = none → opportunity = .next
          (let t := ends .ok fields fun x => { x with blackout := on }
           if on then owes 11 0 t else t)) ∧
        (∀ d f, on ≠ p.blackout → onScreen = some d → p.frame? p.current = some f → s.blk.noFade → p.mode ≠ .program →
          let l := s.blk.lamp d
          let level := if on then 0 else levelOf p.master f
          (l.state = .lit → l.claim = false → s.blk.lcu.priority = d → l.output ≠ level →
            ∃ t, opportunity = .next t ∧ State.Regranted ((taken.setPres fun x => { x with
              granted := some r, levelWait := some d, turnedOn := on, blackout := on }).setLamp d fun l =>
                l.rampedTo level 500) t) ∧
          ((l.state = .off ∨ l.state = .dead ∨
              (l.state = .lit ∧ l.claim = false ∧ s.blk.lcu.priority = d ∧ l.output = level)) →
            ∃ t, opportunity = .next t ∧ State.Regranted
              ((ends .ok fields fun x => { x with blackout := on }).setLamp d fun l =>
                { l with commanded := level, ramp := none }) t)))) ∧
    (∀ n, s.arb.phases[s.arb.pointer]? = some (some .cue) → s.arb.cue = r :: q → r.source = .cue → r.kind = .level →
      r.arg = some n → p.mode = .show → s.arb.authority.cue.level = true →
      let master := max 10 (min 100 n)
      let ends : State := ((taken.setPres fun x => { x with master := master }.ended)).setTape fun x =>
        { x with lastCue := some { kind := .level, status := .ok } }
      (onScreen = none ∨ p.blackout = true → opportunity = .next ends) ∧
      (∀ d f, onScreen = some d → p.blackout = false → p.frame? p.current = some f → s.blk.noFade →
        let l := s.blk.lamp d
        let level := levelOf master f
        (l.state = .lit → l.claim = false → s.blk.lcu.priority = d → l.output ≠ level →
          ∃ t, opportunity = .next t ∧ State.Regranted ((taken.setPres fun x => { x with
            granted := some r, levelWait := some d, turnedOn := false, master := master }).setLamp d fun l =>
              l.rampedTo level 500) t) ∧
        ((l.state = .off ∨ l.state = .dead ∨
            (l.state = .lit ∧ l.claim = false ∧ s.blk.lcu.priority = d ∧ l.output = level)) →
          ∃ t, opportunity = .next t ∧ State.Regranted
            (ends.setLamp d fun l => { l with commanded := level, ramp := none }) t)))

/-- A granted ADVANCE, REVERSE or GOTO from CPORT, outside MIRROR pairing, with the power state ACTIVE and the zone not
CRITICAL, to a frame other than the one presented, on a deck that is IDLE, in service, not on screen and fit to serve
it. The target of a walk is the first frame without SKIP on the way that the loop window gives, found within the table.
A gate that is EMPTY away from the frame's slot turns the tray there the shorter way, and one LOADED at another slot
begins its LIFT in darkness: the presentation is PENDING on that deck, with the class of the frame, or 0 after a CUT,
and the preload is dropped. -/
def Obligations.GrantedMotionOrdersAChange : Prop :=
  ∀ (s : State) (r : Request) (q : List Request) (n : Nat) (f : Frame) (d : DeckId) (m : TrayMap) (at' : Nat)
    (rec : SlotRecord), s.Ok →
    let p := s.blk.pres
    let x := s.blk.deck d
    s.open = true → s.arb.hasPending = false → s.arb.phases[s.arb.pointer]? = some (some .cport) →
    s.arb.cport = r :: q → r.source = .cport →
    ((r.kind = .goto ∧ r.arg = some n) ∨ (r.kind = .advance ∧ p.firstOn p.after n) ∨
      (r.kind = .reverse ∧ p.current ≠ 0 ∧ p.firstOn p.before n)) →
    p.frame? n = some f → (n = p.current → p.screen = none) →
    s.blk.lcu.power = .active → s.blk.lcu.zone ≠ .critical → p.pairing ≠ .mirror →
    d = (if p.pairing = .single then .a else f.deck) →
    (∀ sc ∈ p.screen, sc.deck ≠ d) → p.stopped d = false → x.inService = true → x.map = some m →
    x.position = some at' → f.slot < m.size → m.slots[f.slot]? = some rec → rec.presence ≠ .empty → rec.faults < 4 →
    (s.blk.lamp d).isDead = false → (s.blk.lamp d).unlit = false →
    let cls := if p.cut then 0 else match f.cls with | .num c => c | .default => p.defaultClass
    let ordered (g : Operation → Operation) : State := (({ s with arb := { s.arb with
        cport := q, pointer := (s.arb.pointer + 1) % 16 } } : State).setPres fun y => { y with
      granted := some r, turnedOn := false, cut := false, preload := none, preloadHeld := false
      transition := some { target := n, cls := cls, stand := .pending, excludedA := none, excludedB := none
                           serving := some d, reselected := false, tookOver := false, past := false, lampLost := false
                           behindStop := false } }).setDeck d fun y => { y with
        state := .busy (g (Operation.new .change f.slot .presentation false)) }
    (x.state = .idle .empty → at' ≠ f.slot → x.gateMade = false →
      exec .grantOpportunity s = .next (ordered fun op => { op with
        phase := .rotate, watch := some 250
        drive := some (if (f.slot + m.size - at') % m.size ≤ (at' + m.size - f.slot) % m.size then .forward
          else .backward) })) ∧
    (∀ k, x.state = .idle (.loaded k) → k ≠ f.slot → x.gateMade = true → (s.blk.lamp d).claim = false →
      (s.blk.lamp d).output = 0 → s.blk.noFade → ∃ t, exec .grantOpportunity s = .next t ∧
        State.Regranted ((ordered fun op => { op with phase := .lift, watch := some 500 }).setLamp d fun l =>
          { l with claim := true }) t)

/-- SET_PHASES, SET_AUTHORITY and SET_RANGE_LOCK with good arguments, tables not held: while no grant opportunity can
arise the new table waits as a pending copy and the answer is withheld. With the controller ready and the encoder hold
off it is active at that event, a phase table sets the grant pointer to 0, and the queues are scanned at the same
opportunity with the new table; with the four queues empty nothing else happens. Model's choice: the command's own event
is that opportunity (log 30), and the answer of SET_AUTHORITY leads with the source (log 95). -/
def Obligations.SetTables : Prop :=
  ∀ (s : State) (tag : Byte) (phases : List Byte) (table : List (Option Source)) (src : Source) (source : Byte)
    (m l e p : Bool) (lo hi inv : Byte) (lock : RangeLock),
    s.arb.held = false → s.arb.hasPending = false →
    let idle : Prop := s.arb.cport = [] ∧ s.arb.link = [] ∧ s.arb.remote = [] ∧ s.arb.cue = []
    let opens (o : Host.Outcome State Fault Refusal) (t : State) : Prop :=
      s.open = true → o = exec .grantOpportunity t ∧ (idle → o = .next t)
    (s.Takes 0x60 → phases.length = 16 → allSome (phases.map phaseOf) = some table → some .cport ∈ table →
      (s.open = false → exec (.setPhases tag phases) s = .next { s.withheld 0x60 tag with
        arb := { s.arb with pendingPhases := some { table := table, ticket := s.ticket tag } } }) ∧
      opens (exec (.setPhases tag phases) s) { s.answered 0x60 tag .ok (table.map phaseCode) with
        arb := { s.arb with phases := table, pointer := 0 } }) ∧
    (s.Takes 0x61 → sourceOf source = some src → src ≠ .cport → (e = true → src = .link) →
      let row : Authority := { motion := m, level := l, edit := e, tape := p }
      let pending : PendingAuthority :=
        { table := s.arb.authority.setRow src row, waiting := [{ ticket := s.ticket tag, source := src }] }
      let command := exec (.setAuthority tag source (Bool.code m) (Bool.code l) (Bool.code e) (Bool.code p)) s
      (s.open = false →
        command = .next { s.withheld 0x61 tag with arb := { s.arb with pendingAuthority := some pending } }) ∧
      opens command { s.answered 0x61 tag .ok (authorityBytes src row) with
        arb := { s.arb with authority := s.arb.authority.setRow src row } }) ∧
    (s.Takes 0x62 → rangeLockOf lo hi inv = some lock →
      (s.open = false → exec (.setRangeLock tag lo hi inv) s = .next { s.withheld 0x62 tag with
        arb := { s.arb with pendingLock := some { lock := lock, ticket := s.ticket tag } } }) ∧
      opens (exec (.setRangeLock tag lo hi inv) s)
        { s.answered 0x62 tag .ok (lockBytes lock) with arb := { s.arb with lock := lock } })

/-- SET_LOCK_HOLD writes the lock hold setting and is answered OK at once, refused LOCKED while the tables are held and
BAD_ARGUMENT for another value; the tables are then held exactly when the key reads on and the setting is on, and while
they are held every SET command is refused LOCKED before any check of its arguments. -/
def Obligations.LockHold : Prop :=
  ∀ (s : State) (tag a b c d e : Byte) (phases : List Byte) (on : Bool),
    exec (.showlockKeyChange on) s = .next { s with arb := { s.arb with key := on } } ∧
    (s.Takes 0x63 → s.arb.held = false →
      (exec (.setLockHold tag (Bool.code on)) s =
        .next { s.answered 0x63 tag .ok [] with arb := { s.arb with lockHold := on } }) ∧
      (1 < a.toNat → exec (.setLockHold tag a) s = .next (s.answered 0x63 tag .badArgument []))) ∧
    ({ s.arb with lockHold := on } : Arbiter).held = (s.arb.key && on) ∧
    (s.arb.key = true → s.arb.lockHold = true →
      (s.Takes 0x63 → exec (.setLockHold tag a) s = .next (s.answered 0x63 tag .locked [])) ∧
      (s.Takes 0x60 → phases.length = 16 → exec (.setPhases tag phases) s = .next (s.answered 0x60 tag .locked [])) ∧
      (s.Takes 0x61 → exec (.setAuthority tag a b c d e) s = .next (s.answered 0x61 tag .locked [])) ∧
      (s.Takes 0x62 → exec (.setRangeLock tag a b c) s = .next (s.answered 0x62 tag .locked [])))

/-! ## Commands that read -/

/-- SLOT_READ, FRAME_READ, COMPARE_READ and GET_POSITION are answered at once with the records as they stand and change
no record. A response of up to 28 bytes of result fields is one record; a longer one continues in records that hold
their place in the run. Model's choice (log 6): a presence byte leads COMPARE_READ's list and each field that reaches
255, and GET_POSITION has the fields of R9 first and the hold time in seconds, rounded up. -/
def Obligations.ShowReads : Prop :=
  ((∀ n, byte n = BitVec.ofNat 8 n ∧ optByte (some n) = byte n ∧ presentByte (some n) = [1, byte n]) ∧
   optByte none = 255 ∧ presentByte none = [0, 0] ∧ [false, true].map Bool.code = [0, 1] ∧
   [DeckId.a, .b].map DeckId.code = [0, 1] ∧ [Presence.unknown, .present, .empty].map Presence.code = [0, 1, 2] ∧
   [Service.normal, .twin, .darkEmpty, .darkBad, .darkNodeck, .darkNolamp].map Service.code = [0, 1, 2, 3, 4, 5] ∧
   [Mode.setup, .manual, .show, .program].map Mode.code = [0, 1, 2, 3] ∧
   [Pairing.single, .alternate, .mirror].map Pairing.code = [0, 1, 2] ∧
   [Source.cport, .link, .remote, .cue].map Source.code = [0, 1, 2, 3] ∧
   [Kind.advance, .reverse, .goto, .dark, .chase, .cut, .dissolve, .level].map Kind.code = [0, 1, 2, 3, 4, 5, 6, 7] ∧
   [PreloadState.inFlight, .ready, .failed].map PreloadState.code = [0, 1, 2] ∧
   [some Reason.empty, some .bad, some .nodeck, some .nolamp, none].map optReasonCode = [0, 1, 2, 3, 255]) ∧
  (∀ (code : Nat) (tag : Byte) (status : Status) (fields : List Byte),
    let padded (bs : List Byte) : Record := bs ++ List.replicate (32 - bs.length) 0
    (fields.length ≤ 28 →
      responseRun code tag status fields = [padded ([1, byte code, tag, Status.code status] ++ fields)]) ∧
    (28 < fields.length → fields.length ≤ 56 → responseRun code tag status fields =
      [padded ([1, byte code, tag, Status.code status] ++ fields.take 28),
        padded ([3, byte code, tag, 2] ++ fields.drop 28)])) ∧
  (∀ (s : State) (tag deck first n : Byte) (d : DeckId) (m : TrayMap),
    let p := s.blk.pres
    let slot (r : SlotRecord) : List Byte :=
      [Presence.code r.presence, byte r.faults, if r.faults = 0 then 0 else if r.faults ≤ 3 then 1 else 2] ++
        presentByte r.pass
    let frame (f : Frame) : List Byte :=
      [DeckId.code f.deck, byte f.slot, match f.cls with | .num c => byte c | .default => 8, byte f.level, byte f.hold,
        Bool.code f.skip, Bool.code f.tapeHold]
    let state (frozen : Bool) : Byte :=
      if frozen then 5 else match p.transition with
        | none => if p.current = 0 then 0 else 1
        | some t => match t.stand with | .pending => 2 | .crossing _ => 3 | _ => 4
    let position : List Byte :=
      [byte p.current, state p.frozen, match p.screen with | some sc => DeckId.code sc.deck | none => 2,
        optByte (p.screen.map fun sc => sc.slot), Service.code p.service, Bool.code p.blackout, byte p.master,
        byte p.defaultClass, if p.cut then 0 else 255,
        match p.hold with | .running _ => 0 | .expired => 1 | .absent => 255, byte p.loopStart, byte p.loopEnd,
        Bool.code p.loopOn, Mode.code p.mode, Pairing.code p.pairing, byte p.frames.length] ++
      presentByte (match p.hold with | .running left => some ((left + 999) / 1000) | _ => none) ++
      (match p.preload with
       | some r => [byte r.frame, DeckId.code r.deck, PreloadState.code r.state]
       | none => [255, 255, 255]) ++
      (match p.granted with
       | some r => [Source.code r.source, Kind.code r.kind] ++ presentByte r.arg ++
          presentByte (r.ticket.map fun t => t.tag.toNat)
       | none => [255, 255, 0, 0, 0, 0]) ++
      (if p.frozen then
        match p.transition with
        | some t => [state false, byte t.target, byte t.cls,
            match t.stand with | .cancelFade | .returnChange | .returnFade => 1 | _ => 0]
        | none => [state false, 255, 255, 0]
      else [255, 255, 255, 0]) ++
      (match p.transition with
       | some t => [optReasonCode t.excludedA, optReasonCode t.excludedB]
       | none => [255, 255])
    (s.Takes 0x10 → deckOf deck = some d → (s.blk.deck d).map = some m → n.toNat ≤ 8 → first.toNat < m.size →
      exec (.slotRead tag deck first n) s =
        let rs := (m.slots.drop first.toNat).take n.toNat
        .next (s.answered 0x10 tag .ok ([byte m.size, byte rs.length] ++ rs.flatMap slot))) ∧
    (s.Takes 0x11 → n.toNat ≤ 4 → (n.toNat = 0 ∨ (1 ≤ first.toNat ∧ first.toNat ≤ p.frames.length)) →
      exec (.frameRead tag first n) s =
        let fs := if n.toNat = 0 then [] else (p.frames.drop (first.toNat - 1)).take n.toNat
        .next (s.answered 0x11 tag .ok ([byte p.frames.length, byte fs.length] ++ fs.flatMap frame))) ∧
    (s.Takes 0x2A → p.mismatch = none → exec (.compareRead tag) s = .next (s.answered 0x2A tag .ok [0])) ∧
    (∀ c, s.Takes 0x2A → p.mismatch = some c → c.slots.length ≤ 16 → exec (.compareRead tag) s =
      .next (s.answered 0x2A tag .ok ([1, byte c.passA, byte c.passB, byte c.total, Bool.code c.overflow,
        byte c.slots.length] ++ c.slots.map byte))) ∧
    (s.Takes 0x39 → exec (.getPosition tag) s = .next (s.answered 0x39 tag .ok position)))

/-- DECK_STATUS, LAMP_STATUS, THERMAL_READ, TAPE_STATUS, CUE_MAP_READ, LINK_STATUS and ARBITER_STATUS are answered at
once with the records as they stand and change no record; each answer's fields are spelled, and each name by its place
in its list. Model's choice (log 6): the order of the fields that a description does not give, the units of the times,
the presence bytes, and ANY coded 16. -/
def Obligations.StatusReads : Prop :=
  ((∀ n, word n = [BitVec.ofNat 8 (n / 256), BitVec.ofNat 8 n] ∧ optWord (some n) = word n ∧
     presentWord (some n) = 1 :: word n ∧ expectedCode (some n) = byte n) ∧
   optWord none = [255, 255] ∧ presentWord none = [0, 0, 0] ∧ expectedCode none = 16 ∧
   [FaultKind.jam, .drive, .index].map FaultKind.code = [0, 1, 2] ∧
   [OpKind.change, .home, .census, .release].map OpKind.code = [0, 1, 2, 3] ∧
   [Phase.lift, .rotate, .drop, .settle, .seekIndex, .scan, .unlatched].map Phase.code = [0, 1, 2, 3, 4, 5, 6] ∧
   [Filament.primary, .spare].map Filament.code = [0, 1] ∧ [Health.good, .failed].map Health.code = [0, 1] ∧
   [Zone.normal, .warm, .hot, .critical].map Zone.code = [0, 1, 2, 3] ∧
   [Fan.off, .low, .medium, .high, .full].map Fan.code = [0, 1, 2, 3, 4] ∧
   [Power.active, .cooldown, .standby].map Power.code = [0, 1, 2] ∧
   [Transport.noTape, .stopped, .playing, .recording, .paused .playing, .paused .recording, .windingFwd,
     .windingRev].map
     Transport.code = [0, 1, 2, 3, 4, 4, 5, 6] ∧
   [Leader.none, .head, .tail].map Leader.code = [0, 1, 2] ∧ [CuePolicy.follow, .stop].map CuePolicy.code = [0, 1] ∧
   [CueKind.advance, .reverse, .goto, .cut, .dissolve, .level, .hold, .mute, .unmute, .mark, .fin].map CueKind.num =
     [1, 2, 3, 4, 5, 6, 7, 8, 9, 10, 11] ∧
   [Status.ok, .aborted, .atStart, .noAuthority, .wrongMode, .wrongState, .wrongPowerState, .locked, .rangeLocked,
     .inUse, .badArgument, .deckUnavailable, .jamPresent, .thermal, .notFound, .fault].map Status.code =
     [0, 1, 2, 3, 4, 5, 6, 7, 8, 9, 10, 11, 12, 13, 14, 15] ∧
   [some Source.cport, some .link, some .remote, some .cue, none].map phaseCode = [0, 1, 2, 3, 4]) ∧
  (∀ (s : State) (tag deck : Byte) (d : DeckId),
     let x := s.blk.deck d
     let deckFields : List Byte :=
       [match x.state with | .absent => 0 | .unhomed _ => 1 | .idle _ => 2 | .busy _ => 3 | .fault _ => 4] ++
       (match x.state with | .idle (.loaded k) => [0, byte k] | .idle .empty => [1, 255] | _ => [255, 255]) ++
       (match x.state with
        | .busy op => [OpKind.code op.kind, byte op.target, Phase.code op.phase, byte op.stage] ++
            (match op.requester with | .presentation => [0, 0, 0] | .host t => [1, 1, t.tag] | .internal => [2, 0, 0])
        | _ => [255, 255, 255, 255, 255, 0, 0]) ++
       [match x.state with | .fault k => FaultKind.code k | _ => 255, optByte x.position,
         optByte (x.map.map fun m => m.size), Bool.code x.inService, Bool.code x.censusOnLoad, Bool.code x.censusOwed,
         byte x.slips, byte x.pass, Bool.code (!x.latchClosed)]
     let l := s.blk.lamp d
     let lampFields : List Byte :=
       [match l.state with
        | .off => 0 | .inhibit => 1 | .striking .. => 2 | .lit => 3 | .swapping .. => 4 | .dead => 5,
         Filament.code l.active, Health.code l.primary, Health.code l.spare, byte l.commanded, byte l.granted,
         byte l.output, optByte (l.ramp.map fun r => r.target)] ++
       optWord (l.ramp.map fun r => r.left) ++
       [Bool.code (!l.claim), byte l.attempts, Bool.code l.relightOwed] ++ optWord l.inhibit ++
       [Bool.code (s.blk.lcu.priority == d)]
     let c := s.blk.lcu
     let sensor (x : Sensor) : List Byte := [optByte x.reading, Bool.code x.silent]
     let zone : Zone := if c.fanFault then .critical else c.readingZone
     let thermal : List Byte :=
       sensor c.sensor0 ++ sensor c.sensor1 ++ sensor c.sensor2 ++
       [Zone.code c.readingZone, Zone.code zone,
         match zone with | .normal => 200 | .warm => 150 | .hot => 100 | .critical => 0, Fan.code c.fan,
         Bool.code c.tachSeen, Bool.code c.fanFault] ++ word c.clearing ++
       [Bool.code c.startupHold, Power.code c.power, byte (min 255 (c.sinceExtinguish / 1000))]
     (s.Takes 0x25 → deckOf deck = some d →
       exec (.deckStatus tag deck) s = .next (s.answered 0x25 tag .ok deckFields)) ∧
     (s.Takes 0x43 → deckOf deck = some d →
       exec (.lampStatus tag deck) s = .next (s.answered 0x43 tag .ok lampFields)) ∧
     (s.Takes 0x44 → exec (.thermalRead tag) s = .next (s.answered 0x44 tag .ok thermal))) ∧
  (∀ (s : State) (tag : Byte) (first : BitVec 16) (n : Byte),
     let x := s.blk.tape
     let moving : Bool := match x.transport with | .windingFwd | .windingRev => true | _ => false
     let entry (e : CueEntry) : List Byte :=
       word e.count ++ [byte e.seq, byte e.kind.num, byte e.arg, byte e.frameAfter]
     let tape : List Byte :=
       [Transport.code x.transport, match x.transport with | .paused .playing => 0 | .paused .recording => 1 | _ => 255,
         Bool.code x.pausePending] ++
       optWord (x.runOut.map fun r => r.left) ++ word x.count ++
       [Leader.code x.leader, Bool.code x.wound, Bool.code x.pass.isSome,
         match x.pass with | some p => Bool.code p.wrote | none => 0, Bool.code x.present, expectedCode x.expected,
         CuePolicy.code x.policy, Bool.code x.chase, optByte (x.held.map fun h => h.kind.num)] ++
       presentByte (x.held.map fun h => h.arg) ++ [optByte (x.held.map fun h => h.seq)] ++
       presentWord (x.held.map fun h => h.count) ++ presentByte (x.mark.map fun m => m.n) ++
       presentWord (x.mark.map fun m => m.count) ++
       [match x.lastCue with | some r => Kind.code r.kind | none => 255,
         match x.lastCue with | some r => Status.code r.status | none => 255,
         byte x.taken, byte x.duplicates, byte x.missed, byte x.bad, byte x.undelivered,
         optByte (x.writing.map fun y => y.cue.kind.num), optByte (x.writing.map fun y => y.seq)] ++
       presentWord (x.writing.map fun y => y.start) ++
       [optByte (x.holding.map fun c => c.kind.num), optByte (x.pass.bind fun p => p.next)] ++ word x.map.length ++
       [byte x.setLevel, Bool.code x.mute, byte x.output,
         byte (if x.mute || moving || x.runOut.isSome then 0 else x.setLevel)]
     let l := s.blk.link
     let link : List Byte :=
       [byte l.station,
         byte ((if l.group8 then 1 else 0) + (if l.group9 then 2 else 0) + (if l.group10 then 4 else 0) +
           if l.group11 then 8 else 0),
         Bool.code l.overrun, match l.readSelect with | .status => 0 | .cursor => 1,
         match l.cursor.table with | .frame => 0 | .slotA => 1 | .slotB => 2 | .position => 3,
         byte l.cursor.index, byte l.cursor.field, Bool.code l.cursor.step] ++
       (match l.cursorResult with
        | some r => [1, match r.op with | .set => 0 | .write => 1, byte r.table, byte r.index, byte r.field,
            Status.code r.status]
        | none => [0, 0, 0, 0, 0, 0]) ++
       (match l.requestResult with | some r => [Kind.code r.kind, Status.code r.status] | none => [255, 255]) ++
       [byte l.outstanding, byte l.formatErrors, Bool.code l.assembly.isSome, Bool.code l.readHold.isSome,
         optByte l.readHold]
     let a := s.arb
     let queue (q : List Request) : List Byte := byte q.length :: q.flatMap fun r =>
       Kind.code r.kind :: presentByte r.arg ++
         match r.source with | .cport => [match r.ticket with | some t => t.tag | none => 0] | _ => []
     let rows (t : AuthorityTable) : List Byte := [t.cport, t.link, t.remote, t.cue].flatMap fun r =>
       [Bool.code r.motion, Bool.code r.level, Bool.code r.edit, Bool.code r.tape]
     let locked (k : RangeLock) : List Byte := [byte k.lo, byte k.hi, Bool.code k.invert]
     let arbiter : List Byte :=
       queue a.cport ++ queue a.link ++ queue a.remote ++ queue a.cue ++ a.phases.map phaseCode ++ [byte a.pointer] ++
       (match a.pendingPhases with | some p => p.table.map phaseCode | none => List.replicate 16 255) ++
       rows a.authority ++ (match a.pendingAuthority with | some p => rows p.table | none => List.replicate 16 255) ++
       locked a.lock ++ (match a.pendingLock with | some p => locked p.lock | none => List.replicate 3 255) ++
       [Bool.code a.lockHold, Bool.code a.key, Bool.code (a.key && a.lockHold),
         Bool.code (s.blk.pres.mode == .program && x.transport == .recording && x.holding.isSome),
         Bool.code (!s.blk.pres.frozen && s.blk.pres.transition.isNone && s.blk.pres.granted.isNone)]
     (s.Takes 0x5F → exec (.tapeStatus tag) s = .next (s.answered 0x5F tag .ok tape)) ∧
     (s.Takes 0x5A → n.toNat = 0 →
       exec (.cueMapRead tag first n) s = .next (s.answered 0x5A tag .ok (word x.map.length))) ∧
     (s.Takes 0x5A → 1 ≤ n.toNat → n.toNat ≤ 8 → 1 ≤ first.toNat → first.toNat ≤ x.map.length →
       exec (.cueMapRead tag first n) s =
         let es := (x.map.drop (first.toNat - 1)).take n.toNat
         .next (s.answered 0x5A tag .ok (word x.map.length ++ byte es.length :: es.flatMap entry))) ∧
     (s.Takes 0x6B → exec (.linkStatus tag) s = .next (s.answered 0x6B tag .ok link)) ∧
     (s.Takes 0x64 → exec (.arbiterStatus tag) s = .next (s.answered 0x64 tag .ok arbiter)))

/-! ## Show records -/

/-- The edit buffer. EDIT_OPEN copies a run into the buffer, blank above the count, and EDIT_SET writes one field of one
record of an open buffer: deck, slot 1..99, class 0..7 or DEFAULT, level 10..100, hold limit, SKIP or TAPE_HOLD. An
index, a field or a value out of range is refused BAD_ARGUMENT. EDIT_CANCEL closes the buffer, OPEN or CLOSED. In
COMMIT_DEFERRED the four edit buffer commands are refused IN_USE, and an ABORT of the deferred EDIT_COMMIT leaves the
buffer OPEN. EDIT_SET and EDIT_COMMIT in CLOSED are refused WRONG_STATE. None of them touches the frame table. Model's
choice (log 45): IN_USE and WRONG_STATE come before BAD_ARGUMENT. -/
def Obligations.EditBuffer : Prop :=
  (∀ (x : Frame) (field value : Nat), x.write field value =
    match field with
    | 0 => if value = 0 then some { x with deck := .a } else if value = 1 then some { x with deck := .b } else none
    | 1 => if 1 ≤ value ∧ value ≤ 99 then some { x with slot := value } else none
    | 2 => if value ≤ 7 then some { x with cls := .num value }
        else if value = 8 then some { x with cls := .default } else none
    | 3 => if 10 ≤ value ∧ value ≤ 100 then some { x with level := value } else none
    | 4 => if value ≤ 255 then some { x with hold := value } else none
    | 5 => if value ≤ 1 then some { x with skip := value == 1 } else none
    | 6 => if value ≤ 1 then some { x with tapeHold := value == 1 } else none
    | _ => none) ∧
  (∀ (s : State) (tag first n index field value : Byte) (f : Nat) (run : List Frame) (x y : Frame),
    (s.Takes 0x12 → s.blk.pres.commitDeferred = false →
      (1 ≤ first.toNat → 1 ≤ n.toNat → n.toNat ≤ 16 → first.toNat + n.toNat ≤ 201 →
        exec (.editOpen tag first n) s = .next ((s.answered 0x12 tag .ok [first, n]).setPres fun p =>
          { p with edit := .opened first.toNat ((List.range n.toNat).map fun k =>
              (p.frame? (first.toNat + k)).getD
                { deck := .a, slot := 1, cls := .default, level := 100, hold := 0, skip := false
                  tapeHold := false }) })) ∧
      ((first.toNat = 0 ∨ n.toNat = 0 ∨ 16 < n.toNat ∨ 201 < first.toNat + n.toNat) →
        exec (.editOpen tag first n) s = .next (s.answered 0x12 tag .badArgument []))) ∧
    (s.Takes 0x13 → s.blk.pres.edit = .opened f run →
      (1 ≤ index.toNat → run[index.toNat - 1]? = some x → x.write field.toNat value.toNat = some y →
        exec (.editSet tag index field value) s = .next ((s.answered 0x13 tag .ok []).setPres fun p =>
          { p with edit := .opened f (run.set (index.toNat - 1) y) })) ∧
      ((index.toNat = 0 ∨ run.length < index.toNat) →
        exec (.editSet tag index field value) s = .next (s.answered 0x13 tag .badArgument [])) ∧
      (1 ≤ index.toNat → run[index.toNat - 1]? = some x → x.write field.toNat value.toNat = none →
        exec (.editSet tag index field value) s = .next (s.answered 0x13 tag .badArgument [])))) ∧
  (∀ (s : State) (tag a b c target : Byte),
    ((∃ f run, s.blk.pres.edit = .opened f run) ∨ s.blk.pres.edit = .closed → s.Takes 0x15 →
      exec (.editCancel tag) s =
        .next ((s.answered 0x15 tag .ok []).setPres fun p => { p with edit := .closed })) ∧
    (s.blk.pres.commitDeferred = true →
      (s.Takes 0x15 → exec (.editCancel tag) s = .next (s.answered 0x15 tag .inUse [])) ∧
      (s.Takes 0x12 → exec (.editOpen tag a b) s = .next (s.answered 0x12 tag .inUse [])) ∧
      (s.Takes 0x13 → exec (.editSet tag a b c) s = .next (s.answered 0x13 tag .inUse [])) ∧
      (s.Takes 0x14 → exec (.editCommit tag a) s = .next (s.answered 0x14 tag .inUse []))) ∧
    (∀ f run t k x, s.blk.pres.edit = .deferred f run t k → s.Takes 0x70 →
      (s.port.unanswered.find? fun y => y.ticket.tag == target) = some x → x.ticket.id = k.id →
      s.queuePlace k.id = none → s.blk.deckA.runsFor k.id = none → s.blk.deckB.runsFor k.id = none →
      (∀ r ∈ s.blk.pres.granted, optTicketIs r.ticket k.id = false) → s.blk.link.readHold = none →
      exec (.abort tag target) s = .next ({ s with
        port := { s.port with
          unanswered := s.port.unanswered.eraseP fun y => y.ticket.id == k.id
          out := s.port.out ++ responseRun x.code x.ticket.tag .aborted [] ++ responseRun 0x70 tag .ok []
          nextId := s.port.nextId + 1 } }.setPres fun p => { p with edit := .opened f run })) ∧
    (s.blk.pres.edit = .closed →
      (s.Takes 0x13 → exec (.editSet tag a b c) s = .next (s.answered 0x13 tag .wrongState [])) ∧
      (s.Takes 0x14 → exec (.editCommit tag a) s = .next (s.answered 0x14 tag .wrongState []))))

/-- EDIT_COMMIT of an open run at t: refused BAD_ARGUMENT or RANGE_LOCKED in R22's order, deferred with its answer
withheld when it touches the target of the transition in progress, and else written to frames t..t+n−1 at once, with the
buffer left open. The last two clauses are about a commit with no preload and the loop window off: one that leaves the
current frame alone or finds its lamp not to be commanded writes the frames, and in SHOWING the hold timer of the
current frame; one on the current frame in SHOWING, with a deck on screen and nothing granted, also ramps the lamp on
screen to the new effective level over 0.5 s. Model's choice (log 20): a commit writes the level and the hold limit of
every frame it covers, so the timer starts and the lamp is ramped although they stay as they were. -/
def Obligations.EditCommit : Prop :=
  ∀ (s : State) (tag target : Byte) (f : Nat) (run : List Frame), s.Takes 0x14 →
    s.blk.pres.edit = .opened f run →
    let p := s.blk.pres
    let t := if target.toNat = 0 then f else target.toNat
    let inRange : Prop := 1 ≤ t ∧ t ≤ p.frames.length + 1 ∧ t + run.length ≤ 201
    let k := s.arb.lock
    let locked := (List.range run.length).any fun i => k.lo != 0 && (k.invert != decide (k.lo ≤ t + i ∧ t + i ≤ k.hi))
    let moving := (List.range run.length).any fun i => p.transition.any fun x => x.target == t + i
    let frames := p.frames.take (t - 1) ++ run ++ p.frames.drop (t - 1 + run.length)
    let committed (hold : HoldTimer) : State := (s.answered 0x14 tag .ok [byte frames.length]).setPres fun p =>
      { p with frames := frames, hold := hold }
    let held (x : Frame) : HoldTimer :=
      if x.hold = 0 then .absent else if p.hold = .expired then .expired else .running (x.hold * 1000)
    (¬ inRange → exec (.editCommit tag target) s = .next (s.answered 0x14 tag .badArgument [])) ∧
    (inRange → locked = true → exec (.editCommit tag target) s = .next (s.answered 0x14 tag .rangeLocked [])) ∧
    (inRange → locked = false → moving = true → exec (.editCommit tag target) s =
      .next ((s.withheld 0x14 tag).setPres fun p => { p with edit := .deferred f run t (s.ticket tag) })) ∧
    (inRange → locked = false → moving = false → p.preload = none → p.loopOn = false →
      ((p.current < t ∨ t + run.length ≤ p.current ∨ p.state ≠ .showing) →
        exec (.editCommit tag target) s = .next (committed p.hold)) ∧
      (∀ x, t ≤ p.current → run[p.current - t]? = some x → p.state = .showing →
        (p.screen = none ∨ p.granted.isSome = true) →
        exec (.editCommit tag target) s = .next (committed (held x))) ∧
      (∀ x sc, t ≤ p.current → run[p.current - t]? = some x → p.state = .showing → p.screen = some sc →
        p.granted = none → s.blk.noFade →
        let full := x.level * p.master / 100
        let level := if p.blackout then 0 else if p.hold = .expired then min full 40 else full
        ∃ t', exec (.editCommit tag target) s = .next t' ∧
          State.Regranted ((committed (held x)).setLamp sc.deck fun l => { l with
            commanded := level
            ramp := if l.state = .off ∨ l.state = .dead ∨ (t'.blk.lamp sc.deck).output = level then none
              else some { start := l.output, target := level, total := 500, left := 500 } }) t'))

/-- SET_FRAME_COUNT removes the frames above m, and LAYOUT builds the table from the presence fields, both in SETUP mode
with no range lock, no commit deferred, no preload and the loop off. LAYOUT takes the slots in ascending order: of the
slots that read PRESENT those of deck A in SINGLE, of A and then of B in ALTERNATE, and one frame on A where either
deck's reads so in MIRROR, each a blank record but for its deck and slot. The current frame, the transition and the edit
buffer stay as they are. -/
def Obligations.TableRebuild : Prop :=
  ∀ (s : State) (tag m pairing : Byte) (q : Pairing), s.blk.pres.mode = .setup → s.arb.lock.lo = 0 →
    s.blk.pres.commitDeferred = false → s.blk.pres.preload = none → s.blk.pres.loopOn = false →
    (s.Takes 0x16 → m.toNat ≤ s.blk.pres.frames.length → s.blk.pres.current ≤ m.toNat →
      (∀ t ∈ s.blk.pres.transition, t.target ≤ m.toNat) →
      exec (.setFrameCount tag m) s =
        .next ((s.answered 0x16 tag .ok [m]).setPres fun p => { p with frames := p.frames.take m.toNat })) ∧
    (s.Takes 0x17 → s.blk.pres.state = .empty → pairingOf pairing = some q →
      let present (x : Deck) (k : Nat) : Bool := match x.map with
        | some m => decide (k < m.size) && (match m.slots[k]? with | some r => r.presence == .present | none => false)
        | none => false
      let row (d : DeckId) (k : Nat) : List Frame :=
        [{ deck := d, slot := k, cls := .default, level := 100, hold := 0, skip := false, tapeHold := false }]
      let inA := present s.blk.deckA
      let inB := present s.blk.deckB
      let frames : List Frame := (List.range' 1 99).flatMap fun k => match q with
        | .single => if inA k then row .a k else []
        | .alternate => (if inA k then row .a k else []) ++ if inB k then row .b k else []
        | .mirror => if inA k || inB k then row .a k else []
      exec (.layout tag pairing) s =
        .next ((s.answered 0x17 tag .ok [byte frames.length]).setPres fun p =>
          { p with frames := frames, preloadHeld := false }))

/-- SLOT_MARK writes fault count 7 and keeps presence and pass, with a SLOT_BAD event when the count was 3 or less;
SLOT_RELOAD writes fault count 0 and presence UNKNOWN, and is refused IN_USE while a ladder at stage 1 to 5 works on the
slot. The answer carries the record after the write, and, model's choice (log 81), the response joins after the event.
-/
def Obligations.SlotMarks : Prop :=
  ∀ (s : State) (tag deck position : Byte) (d : DeckId) (m : TrayMap) (r : SlotRecord),
    deckOf deck = some d → (s.blk.deck d).map = some m → 1 ≤ position.toNat → position.toNat < m.size →
    m.slots[position.toNat]? = some r →
    let written (r : SlotRecord) (s : State) : State :=
      s.setDeck d fun x => { x with map := some { m with slots := m.slots.set position.toNat r } }
    (s.Takes 0x28 → 4 ≤ r.faults → exec (.slotMark tag deck position) s =
      .next (written { r with faults := 7 } (s.answered 0x28 tag .ok (SlotRecord.bytes { r with faults := 7 })))) ∧
    (s.Takes 0x28 → r.faults ≤ 3 → s.port.out.length + s.port.reserved + 2 ≤ 24 →
      exec (.slotMark tag deck position) s = .next (written { r with faults := 7 }
        ((s.raised .slotBad [deck, position]).answered 0x28 tag .ok (SlotRecord.bytes { r with faults := 7 })))) ∧
    (s.Takes 0x29 → (s.blk.deck d).ladderOn position.toNat = false → exec (.slotReload tag deck position) s =
      .next (written { r with faults := 0, presence := .unknown }
        (s.answered 0x29 tag .ok (SlotRecord.bytes { r with faults := 0, presence := .unknown })))) ∧
    (s.Takes 0x29 → (s.blk.deck d).ladderOn position.toNat = true →
      exec (.slotReload tag deck position) s = .next (s.answered 0x29 tag .inUse []))

/-! ## Deck controllers -/

/-- DECK_SERVICE and SET_DECK_OPTIONS write their setting and answer OK; an option of off also sets census owed to no;
DECK_SERVICE off is refused IN_USE on the on-screen deck and on a transition's serving deck. DECK_CLEAR with the gate
sensor made is refused JAM_PRESENT, and DECK_CENSUS in SHOW or PROGRAM mode WRONG_MODE; neither changes anything else.
-/
def Obligations.DeckSettings : Prop :=
  (∀ (s : State) (tag deck : Byte) (d : DeckId) (on : Bool), deckOf deck = some d →
     (s.Takes 0x23 → exec (.deckService tag deck 1) s =
       .next ((s.answered 0x23 tag .ok []).setDeck d fun x => { x with inService := true })) ∧
     (s.Takes 0x23 → s.blk.pres.uses d = true →
       exec (.deckService tag deck 0) s = .next (s.answered 0x23 tag .inUse [])) ∧
     (s.Takes 0x23 → s.blk.pres.uses d = false → (∀ r ∈ s.blk.pres.preload, r.deck ≠ d) →
       exec (.deckService tag deck 0) s =
         .next ((s.answered 0x23 tag .ok []).setDeck d fun x => { x with inService := false })) ∧
     (s.Takes 0x26 → exec (.setDeckOptions tag deck (Bool.code on)) s =
       .next ((s.answered 0x26 tag .ok []).setDeck d fun x =>
         { x with censusOnLoad := on, censusOwed := if on then x.censusOwed else false }))) ∧
  (∀ (s : State) (tag deck : Byte) (d : DeckId) (k : FaultKind), deckOf deck = some d →
     (s.Takes 0x24 → (s.blk.deck d).state = .fault k → (s.blk.deck d).gateMade = true →
       exec (.deckClear tag deck) s = .next (s.answered 0x24 tag .jamPresent [])) ∧
     (s.Takes 0x21 → (s.blk.pres.mode = .show ∨ s.blk.pres.mode = .program) →
       exec (.deckCensus tag deck) s = .next (s.answered 0x21 tag .wrongMode [])))

/-- DECK_HOME, DECK_CENSUS, DECK_RELEASE and DECK_CLEAR start their operation for the host, with the answer withheld, on
a deck that is not in use. With the gate sensor clear and no dark claim: HOME and CENSUS, and a RELEASE of a deck that
is not homed, drive forward in SEEK_INDEX; a RELEASE of a homed deck turns to position 0 the shorter way, forward in a
tie, and stands in ROTATE when it is there already; DECK_CLEAR leaves FAULT and homes, and releases the claim of a JAM.
With the gate sensor made HOME, CENSUS and RELEASE begin with a LIFT under a dark claim: at output 0 the lifter moves at
once with its watch of 500 ms, and above it the lamp first fades for 100 ms. The other deck, the presentation and the
tape stay as they are, and so do the lamps but for that claim and the grants. -/
def Obligations.DeckOperationsStart : Prop :=
  ∀ (s : State) (tag deck : Byte) (d : DeckId), deckOf deck = some d →
    let free : Prop := s.blk.operationRefusal d = none ∧ ∀ r ∈ s.blk.pres.preload, r.deck ≠ d
    let begins (code : Nat) (kind : OpKind) (fromUnhomed : Bool) (f : Operation → Operation) : State :=
      (s.withheld code tag).setDeck d fun x => { x with
        state := .busy (f (Operation.new kind 0 (.host (s.ticket tag)) fromUnhomed))
        censusOwed := if kind = .census then false else x.censusOwed }
    let seeks (code : Nat) (kind : OpKind) (fromUnhomed : Bool) : State := begins code kind fromUnhomed fun op =>
      { op with phase := .seekIndex, drive := some .forward, watch := some 250 }
    ((s.blk.deck d).gateMade = false → (s.blk.lamp d).claim = false →
      (s.Takes 0x20 → free → ∀ g, (s.blk.deck d).state = .idle g →
        exec (.deckHome tag deck) s = .next (seeks 0x20 .home false)) ∧
      (s.Takes 0x20 → free → ∀ n, (s.blk.deck d).state = .unhomed n →
        exec (.deckHome tag deck) s = .next (seeks 0x20 .home true)) ∧
      (s.Takes 0x21 → free → s.blk.pres.mode ≠ .show → s.blk.pres.mode ≠ .program →
        (∀ g, (s.blk.deck d).state = .idle g → exec (.deckCensus tag deck) s = .next (seeks 0x21 .census false)) ∧
        (∀ n, (s.blk.deck d).state = .unhomed n → exec (.deckCensus tag deck) s = .next (seeks 0x21 .census true))) ∧
      (s.Takes 0x22 → free → (s.blk.deck d).position = none → ∀ n, (s.blk.deck d).state = .unhomed n →
        exec (.deckRelease tag deck) s = .next (seeks 0x22 .release true)) ∧
      (s.Takes 0x22 → free → ∀ p g m, (s.blk.deck d).position = some p → (s.blk.deck d).state = .idle g →
        (s.blk.deck d).map = some m → exec (.deckRelease tag deck) s = .next (begins 0x22 .release false fun op =>
          { op with
            phase := .rotate
            drive := if p = 0 then none else some (if m.size - p ≤ p then .forward else .backward)
            watch := if p = 0 then none else some 250 })) ∧
      (s.Takes 0x24 → ∀ k, (s.blk.deck d).state = .fault k → exec (.deckClear tag deck) s =
        .next ((seeks 0x24 .home true).setDeck d fun x => { x with position := none }))) ∧
    (s.Takes 0x24 → (s.blk.deck d).gateMade = false → s.blk.noFade → ∀ k, (s.blk.deck d).state = .fault k →
      ∃ t, exec (.deckClear tag deck) s = .next t ∧
        State.Regranted (((seeks 0x24 .home true).setDeck d fun x => { x with position := none }).setLamp d fun l =>
          { l with claim := false }) t) ∧
    (∀ c ∈ [((0x20 : Nat), OpKind.home, Instr.deckHome tag deck), (0x21, .census, .deckCensus tag deck),
        (0x22, .release, .deckRelease tag deck)],
      s.Takes c.1 → free → (c.2.1 = .census → s.blk.pres.mode ≠ .show ∧ s.blk.pres.mode ≠ .program) →
      (s.blk.deck d).gateMade = true → (s.blk.lamp d).claim = false → s.blk.noFade →
      let unhomed : Bool := match (s.blk.deck d).state with | .unhomed _ => true | _ => false
      ((s.blk.lamp d).output = 0 → ∃ t, exec c.2.2 s = .next t ∧
        State.Regranted ((begins c.1 c.2.1 unhomed fun op => { op with phase := .lift, watch := some 500 }).setLamp d
          fun l => { l with claim := true }) t) ∧
      (0 < (s.blk.lamp d).output → (s.blk.lamp d).state = .lit → (s.blk.lamp d).ramp = none →
        (s.blk.lamp d).commanded = (s.blk.lamp d).output → s.blk.lcu.priority = d →
        ∃ t, exec c.2.2 s = .next t ∧
          State.Regranted ((begins c.1 c.2.1 unhomed fun op => { op with phase := .lift }).setLamp d fun l =>
            { l with claim := true, fade := some { start := l.output, left := 100 } }) t)) ∧
    (s.Takes 0x20 → ∀ r, s.blk.operationRefusal d = some r →
      exec (.deckHome tag deck) s = .next (s.answered 0x20 tag r []))

/-- A tray inserted into an ABSENT deck: the deck is UNHOMED with a fresh map, its latch closed and its slip count 0,
and a census is owed as the option says. The settle time then ends in a self-HOME. A tray removed from an IDLE deck
leaves the deck ABSENT, silently; removed from UNLATCHED it answers the DECK_RELEASE with OK. The presentation
controller's census indication and mismatch list go with the tray. Removed under the slide on screen it costs the deck
its place: the frame is served DARK_NODECK, the hold timer ends and FRAME_DARK is raised, and the lamp goes to 0 at
once. Model's choice (log 5, 36): a removal on an ABSENT deck writes the pin alone. -/
def Obligations.TrayEvents : Prop :=
  (∀ (s : State) (d : DeckId) (size : TraySize), s.Ok →
     let n := match size with | .short => 64 | .long => 100
     let fresh : TrayMap :=
       { size := n
         slots := { presence := .empty, faults := 0, pass := none } ::
           List.replicate (n - 1) { presence := .unknown, faults := 0, pass := none } }
     let forget (s : State) : State := s.setPres fun p => { p.setCensus d false with mismatch := none }
     let gone (s : State) : State := forget (s.setDeck d fun x =>
       { x with
         seated := false, state := .absent, map := none, position := none, censusOwed := false, latchClosed := false })
     ((s.blk.deck d).state = .absent → exec (.trayInsertion d size) s = .next (forget (s.setDeck d fun x =>
       { x with
         seated := true, sizeCode := size, state := .unhomed 1000, position := none, map := some fresh
         latchClosed := true, slips := 0, censusOwed := x.censusOnLoad }))) ∧
     (∀ k, (s.blk.deck d).state = .unhomed k → (s.blk.deck d).gateMade = false → (s.blk.lamp d).claim = false →
       exec (.seatSettleExpiry d) s = .next (s.setDeck d fun x => { x with
         state := .busy { Operation.new .home 0 .internal true with
           phase := .seekIndex, drive := some .forward, watch := some 250 } })) ∧
     (s.blk.unconcerned d → (s.blk.lamp d).claim = false →
       ((∀ g, (s.blk.deck d).state = .idle g → exec (.trayRemoval d) s = .next (gone s)) ∧
        (∀ op, (s.blk.deck d).state = .busy op → op.phase = .unlatched →
         exec (.trayRemoval d) s = .next { gone s with port := s.port.answeredTo op.requester .ok [] }))) ∧
     ((s.blk.deck d).state = .absent → exec (.trayRemoval d) s =
       .next (s.setDeck d fun x => { x with seated := false }))) ∧
  (∀ (s : State) (d : DeckId) (sc : Screen) (g : Gate), s.Ok → s.blk.noFade → s.blk.pres.transition = none →
     s.blk.pres.frozen = false → s.blk.pres.current ≠ 0 → s.blk.pres.screen = some sc → sc.deck = d →
     (∀ r ∈ s.blk.pres.preload, r.deck ≠ d) → (s.blk.deck d).state = .idle g → (s.blk.lamp d).claim = false →
     s.blk.pres.levelWait ≠ some d →
     ∃ t, exec (.trayRemoval d) s = .next t ∧
       t.port = (s.raised .frameDark [byte s.blk.pres.current, 4]).port ∧ t.arb = s.arb ∧
       t.blk.pres = { s.blk.pres.setCensus d false with
         mismatch := none, screen := none, service := .darkNodeck, hold := .absent } ∧
       t.blk.deck d = { s.blk.deck d with
         seated := false, state := .absent, map := none, position := none, censusOwed := false, latchClosed := false } ∧
       t.blk.deck d.other = s.blk.deck d.other ∧ (t.blk.lamp d).commanded = 0 ∧ (t.blk.lamp d).output = 0 ∧
       (t.blk.lamp d).ramp = none ∧
       t.blk.tape = s.blk.tape ∧ t.blk.link = s.blk.link ∧ t.blk.remote = s.blk.remote)

/-- Model's choice (log 5, 36): a slot pulse on a deck that rotates nothing only reads the two sensors. In ROTATE it
counts the position by one step of the tray, an index pulse sets position 0 and counts a slip when the count stood
elsewhere, and the drive stops at the target or goes on the shorter way. In SEEK_INDEX it counts towards the search
limit, and an index pulse ends the HOME with its position 0. In SCAN it senses the slot and counts a step, and the last
step stops the drive; a first index pulse before the last step is a slip, from which the T steps are counted anew. A
held ABORT ends its command at the pulse, IDLE and EMPTY with ABORTED: a DECK_RELEASE in ROTATE, a DECK_CENSUS in SCAN,
and either at the index in SEEK_INDEX, where a DECK_RELEASE that meets no index is answered ABORTED and homes by itself.
Model's choice (log 56): the last step ends the scan with the index made or not. -/
def Obligations.SlotPulse : Prop :=
  ∀ (s : State) (d : DeckId) (index present : Bool), s.Ok →
    let read (x : Deck) : Deck := { x with indexMade := index, slotPresent := present }
    ((∀ op, (s.blk.deck d).state ≠ .busy op) → exec (.slotPulse d index present) s = .next (s.setDeck d read)) ∧
    (∀ op dir m p, (s.blk.deck d).state = .busy op → op.drive = some dir → op.resetting = false →
      op.stopHeld = false → (s.blk.deck d).map = some m → (s.blk.deck d).position = some p →
      let q := match dir with | .forward => (p + 1) % m.size | .backward => (p + m.size - 1) % m.size
      let at' := if index then 0 else q
      let counted (x : Deck) : Deck := { read x with
        position := some at', slips := if index ∧ q ≠ 0 then min 255 (x.slips + 1) else x.slips }
      let ended (f : Deck → Deck) : State :=
        { s.setDeck d (fun x => { f (counted x) with state := .idle .empty }) with
          port := s.port.answeredTo op.requester .aborted [] }
      (op.phase = .rotate → op.abortHeld = false → (s.blk.deck d).slips ≤ 255 →
        exec (.slotPulse d index present) s = .next (s.setDeck d fun x => { counted x with
          state := .busy { op with
            drive := if at' = op.target then none else some (shortWay at' op.target m.size)
            watch := if at' = op.target then none else some 250 } })) ∧
      (op.phase = .scan → op.abortHeld = false → (s.blk.deck d).gateMade = false → (s.blk.deck d).slips ≤ 255 →
        ((index = false ∨ op.scanLeft ≤ 1) →
          exec (.slotPulse d index present) s = .next (s.setDeck d fun x => { (counted x).sense present with
            state := .busy { op with
              scanLeft := op.scanLeft - 1
              drive := if op.scanLeft ≤ 1 then none else some .forward
              watch := if op.scanLeft ≤ 1 then none else some 250 } })) ∧
        (index = true → 1 < op.scanLeft → op.scanSlips = 0 →
          exec (.slotPulse d index present) s = .next (s.setDeck d fun x => { counted x with
            state := .busy { op with
              scanLeft := m.size, scanSlips := 1, drive := some .forward, watch := some 250 } }))) ∧
      (op.abortHeld = true → op.suspended = none → (s.blk.deck d).slips ≤ 255 →
        (op.kind = .release → op.phase = .rotate →
          exec (.slotPulse d index present) s = .next (ended fun x => x.sense present)) ∧
        (op.kind = .census → op.phase = .scan → (index = false ∨ op.scanLeft ≤ 1) →
          exec (.slotPulse d index present) s = .next (ended fun x => x.sense present)) ∧
        (op.kind = .census → op.phase = .scan → index = true → 1 < op.scanLeft → op.scanSlips = 0 →
          exec (.slotPulse d index present) s = .next (ended fun x => x)))) ∧
    (∀ op, (s.blk.deck d).state = .busy op → op.drive.isSome = true → op.resetting = false → op.phase = .seekIndex →
      op.suspended = none → op.abortHeld = true → (s.blk.deck d).position = none →
      let answered : Port := s.port.answeredTo op.requester .aborted []
      (index = true → (op.kind = .census ∨ op.kind = .release) → exec (.slotPulse d index present) s = .next
        { s.setDeck d (fun x => { read x with position := some 0, state := .idle .empty }) with port := answered }) ∧
      (index = false → op.kind = .release → (s.blk.deck d).gateMade = false → (s.blk.lamp d).claim = false →
        exec (.slotPulse d index present) s = .next
          { s.setDeck d (fun x => { read x with state := .busy { Operation.new .home 0 .internal true with
              phase := .seekIndex, drive := some .forward, watch := some 250 } }) with port := answered })) ∧
    (∀ op dir m, (s.blk.deck d).state = .busy op → op.drive = some dir → op.resetting = false →
      op.phase = .seekIndex → op.suspended = none → op.abortHeld = false → (s.blk.deck d).map = some m →
      (s.blk.deck d).position = none →
      (index = false → exec (.slotPulse d index present) s = .next (s.setDeck d fun x => { read x with
        state := .busy { op with
          pulses := op.pulses + 1
          drive := if m.size + 4 ≤ op.pulses + 1 then none else op.drive
          watch := if m.size + 4 ≤ op.pulses + 1 then none else some 250 } })) ∧
      (index = true → op.kind = .home → (op.fromUnhomed = false ∨ (s.blk.deck d).censusOwed = false) →
        exec (.slotPulse d index present) s = .next
          { s.setDeck d (fun x => { read x with position := some 0, state := .idle .empty }) with
            port := s.port.answeredTo op.requester .ok [] }) ∧
      (index = true → op.kind = .home → op.fromUnhomed = true → (s.blk.deck d).censusOwed = true →
        (s.blk.deck d).gateMade = false → (s.blk.lamp d).claim = false →
        exec (.slotPulse d index present) s = .next
          { s.setDeck d (fun x => { read x with
              position := some 0, censusOwed := false
              state := .busy { Operation.new .census 0 .internal false with
                phase := .seekIndex, drive := some .forward, watch := some 250 } }) with
            port := s.port.answeredTo op.requester .ok [] }))

/-- What ends an operation in FAULT: a DECK_FAULT event with the position that is kept (a JAM) or FFh, the state FAULT
with its kind, and the host's command answered FAULT. The slot pulse watch gives DRIVE in SEEK_INDEX and SCAN, the
search limit INDEX, the LIFT watch and a gate that makes while the drive runs JAM. A first DRIVE fault in ROTATE is
recovered by an automatic HOME instead; a second slip of a SCAN gives INDEX. Model's choice: the bytes of DECK_FAULT,
with FFh for no position, the disposition after them, and the suspended operation's kind (log 28), and the ladder stage
0 of an automatic HOME, in stage 3 too (log 58). -/
def Obligations.DeckFaults : Prop :=
  ∀ (s : State) (d : DeckId) (op : Operation), s.Ok → s.blk.unconcerned d → (s.blk.deck d).state = .busy op →
    op.resetting = false → op.suspended = none →
    let fault (kind : FaultKind) (code : Byte) (position : Option Nat) (f : Deck → Deck) : State :=
      { s.setDeck d (fun x => { f x with state := .fault kind, position := position }) with
        port := (s.raised .deckFault [DeckId.code d, code, OpKind.code op.kind, optByte position]).port.answeredTo
          op.requester .fault [] }
    ((s.blk.lamp d).claim = false → op.drive.isSome = true → (op.phase = .seekIndex ∨ op.phase = .scan) →
      exec (.slotPulseWatchExpiry d) s = .next (fault .drive 1 none fun x => x)) ∧
    ((s.blk.deck d).gateMade = false → op.drive.isSome = true → op.phase = .rotate → op.autoHomeUsed = false →
      exec (.slotPulseWatchExpiry d) s = .next
        ((s.raised .deckFault [DeckId.code d, 1, OpKind.code op.kind, 255, 0]).setDeck d fun x => { x with
          position := none
          state := .busy { op with
            kind := .home, target := 0, requester := .internal, stage := 0, phase := .seekIndex, pulses := 0
            drive := some .forward, watch := some 250
            suspended := some
              { kind := op.kind, target := op.target, requester := op.requester, stage := op.stage } } })) ∧
    ((s.blk.lamp d).claim = false → (s.blk.deck d).searchLimitDue = true →
      exec (.indexSearchLimit d) s = .next (fault .index 2 none fun x => x)) ∧
    (op.phase = .lift → op.watch.isSome = true →
      exec (.liftWatchExpiry d) s = .next (fault .jam 0 (s.blk.deck d).position fun x => x)) ∧
    (∀ m p present, (s.blk.lamp d).claim = false → op.phase = .scan → op.drive = some .forward → 1 < op.scanLeft →
      1 ≤ op.scanSlips → (s.blk.deck d).map = some m → (s.blk.deck d).position = some p → (s.blk.deck d).slips ≤ 255 →
      exec (.slotPulse d true present) s = .next (fault .index 2 none fun x => { x with
        indexMade := true, slotPresent := present
        slips := if (p + 1) % m.size = 0 then x.slips else min 255 (x.slips + 1) })) ∧
    (op.drive.isSome = true → exec (.gateSensorMakes d) s =
      .next (fault .jam 0 (s.blk.deck d).position fun x => { x with gateMade := true }))

/-- The ends of a rotation and of a census scan. A CHANGE that arrives senses its slot: EMPTY or a fault count of 4 or
more ends it with the gate EMPTY, else its DROP begins in darkness with a watch of 600 ms. A RELEASE that arrives
unlatches the tray. A completed CENSUS leaves the deck IDLE, raises CENSUS_DONE and answers its host, and the controller
compares the two maps in MIRROR pairing once both decks have been read: the slots 1 to 99 on which one deck alone reads
PRESENT, the first 16 of them listed. Model's choice: ROTATE_DISTANCE_END changes nothing when no rotation has come to
its end (log 5), and a census whose last slot pulse has come completes although an ABORT of it is held (log 57);
CENSUS_DONE joins first, then the command's OK, then CENSUS_MISMATCH (logs 35, 81). -/
def Obligations.RotationEnds : Prop :=
  ∀ (s : State) (d : DeckId) (op : Operation) (present : Bool), s.Ok → (s.blk.deck d).state = .busy op →
    let sensed (x : Deck) : Deck := ({ x with slotPresent := present } : Deck).sense present
    ((s.blk.deck d).rotateEndDue = true → op.abortHeld = false → op.kind = .release →
      exec (.rotateDistanceEnd d present) s = .next (s.setDeck d fun x => { sensed x with
        latchClosed := false, state := .busy { op with phase := .unlatched, drive := none, watch := none } })) ∧
    (∀ m r, (s.blk.deck d).rotateEndDue = true → op.kind = .change → op.stage = 0 → op.stopHeld = false →
      (s.blk.deck d).map = some m → m.slots[op.target]? = some r → 1 ≤ op.target → op.target < m.size →
      (op.retargetHeld = none → s.blk.unconcerned d → (s.blk.lamp d).claim = false → (present = false ∨ 4 ≤ r.faults) →
        exec (.rotateDistanceEnd d present) s =
          .next (s.setDeck d fun x => { sensed x with state := .idle .empty })) ∧
      (present = true → r.faults < 4 → s.blk.pres.transition = none → (s.blk.deck d).gateMade = false →
        (s.blk.lamp d).claim = true → (s.blk.lamp d).output = 0 → (s.blk.lamp d).fade = none →
        exec (.rotateDistanceEnd d present) s = .next (s.setDeck d fun x => { sensed x with
          state := .busy { op with phase := .drop, drive := none, watch := some 600 } }))) ∧
    ((s.blk.deck d).rotateEndDue = false → exec (.rotateDistanceEnd d present) s = .next s) ∧
    ((s.blk.deck d).scanDue = true →
      let n := byte (s.blk.deck d).presentCount
      let pass := byte (s.blk.deck d).pass
      let done : State := { s.setDeck d (fun x => { x with state := .idle .empty }) with
        port := (s.raised .censusDone [DeckId.code d, pass, n]).port.answeredTo op.requester .ok [pass, n] }
      let reads (x : Deck) (k : Nat) : Bool := match x.map with
        | some m => decide (k < m.size) && m.slots[k]?.any fun r => r.presence == .present
        | none => false
      let differ := ((List.range 100).drop 1).filter fun k => reads s.blk.deckA k != reads s.blk.deckB k
      let c : Compare :=
        { passA := s.blk.deckA.pass, passB := s.blk.deckB.pass, total := differ.length
          overflow := decide (16 < differ.length), slots := differ.take 16 }
      (s.blk.pres.pairing ≠ .mirror → exec (.censusScanComplete d) s =
        .next (done.setPres fun p => p.setCensus d true)) ∧
      (s.blk.pres.pairing = .mirror → s.blk.pres.census d.other = false → exec (.censusScanComplete d) s =
        .next (done.setPres fun p => p.setCensus d true)) ∧
      (s.blk.pres.pairing = .mirror → s.blk.pres.census d.other = true → c.total = 0 →
        exec (.censusScanComplete d) s =
          .next (done.setPres fun p => { p.setCensus d true with mismatch := some c })) ∧
      (s.blk.pres.pairing = .mirror → s.blk.pres.census d.other = true → 0 < c.total →
        exec (.censusScanComplete d) s =
          .next ((done.raised .censusMismatch [byte c.total, Bool.code c.overflow, byte c.passA, byte c.passB]).setPres
            fun p => { p.setCensus d true with mismatch := some c })))

/-- The gate's events in a CHANGE at ladder stage 0. A LIFT ends when the sensor clears, and the tray turns the shorter
way to the target; a DROP goes on to SETTLE, of 150 ms, when it makes; a DROP whose watch runs out climbs to ladder
stage 1 and drops again. Model's choice (log 5, 36): on a deck that moves nothing the sensor is only read. -/
def Obligations.GateEvents : Prop :=
  ∀ (s : State) (d : DeckId), s.Ok →
    ((∀ op, (s.blk.deck d).state ≠ .busy op) →
      exec (.gateSensorClears d) s = .next (s.setDeck d fun x => { x with gateMade := false }) ∧
      exec (.gateSensorMakes d) s = .next (s.setDeck d fun x => { x with gateMade := true })) ∧
    (∀ op, (s.blk.deck d).state = .busy op → op.kind = .change → op.stage = 0 → op.suspended = none →
      op.resetting = false → op.watch.isSome = true →
      (∀ m p, op.phase = .lift → op.stopHeld = false → (s.blk.deck d).map = some m → (s.blk.deck d).position = some p →
        exec (.gateSensorClears d) s = .next (s.setDeck d fun x => { x with
          gateMade := false
          state := .busy { op with
            phase := .rotate, autoHomeUsed := false
            drive := if p = op.target then none else some (shortWay p op.target m.size)
            watch := if p = op.target then none else some 250 } })) ∧
      (op.phase = .drop → op.drive = none → exec (.gateSensorMakes d) s = .next (s.setDeck d fun x => { x with
        gateMade := true, state := .busy { op with phase := .settle, watch := some 150 } })) ∧
      (op.phase = .drop → (s.blk.deck d).gateMade = false → (s.blk.deck d).mayDrop op.target = true →
        (s.blk.lamp d).claim = true → (s.blk.lamp d).output = 0 → (s.blk.lamp d).fade = none →
        s.blk.pres.transition = none →
        exec (.dropWatchExpiry d) s = .next (s.setDeck d fun x => { x with
          state := .busy { op with stage := 1, phase := .drop, drive := none, watch := some 600 } })))

/-- The recovery ladder of a CHANGE, on a deck that no transition waits on, its lamp dark under the claim. A drop whose
watch runs out at stage 0 or 1 goes on to the next stage, and drops again; at stage 2 it goes on to stage 3, where the
tray seeks its index first, then turns back to the slot; at stage 3 to stage 4, a last drop; at stage 4 to stage 5,
which marks the slot, ends the CHANGE FAILED and leaves the gate EMPTY. A slot that may not be dropped leads to stage 5
at once. A gate sensor that reads made when a stage begins, or in stage 5, makes it begin with a LIFT, after which it
goes on as above. The claim is released at the end of the CHANGE alone. -/
def Obligations.RecoveryLadder : Prop :=
  ∀ (s : State) (d : DeckId) (op : Operation) (m : TrayMap) (rec : SlotRecord), s.Ok → s.blk.noFade →
    s.blk.unconcerned d → (s.blk.deck d).state = .busy op → (s.blk.deck d).map = some m →
    m.slots[op.target]? = some rec → op.kind = .change → op.suspended = none → op.resetting = false →
    op.retargetHeld = none → op.stopHeld = false → 1 ≤ op.target → op.target < m.size → (s.blk.lamp d).claim = true →
    (s.blk.lamp d).output = 0 →
    let x := s.blk.deck d
    let works (n : Nat) (y : Deck) (f : Operation → Operation) : State :=
      s.setDeck d fun _ => { y with state := .busy (f { op with stage := n, drive := none, watch := none }) }
    let drops (n : Nat) (y : Deck) : State := works n y fun o => { o with phase := .drop, watch := some 600 }
    let lifts (n : Nat) (y : Deck) : State := works n y fun o => { o with phase := .lift, watch := some 500 }
    let seeks (n : Nat) (y : Deck) : State :=
      works n y fun o => { o with phase := .seekIndex, pulses := 0, drive := some .forward, watch := some 250 }
    let failed (y : Deck) : State :=
      ({ s.setDeck d (fun _ => { y with
          state := .idle .empty
          map := y.map.map fun k => { k with slots := k.slots.modify op.target fun r => { r with faults := 7 } } }) with
        port := if rec.faults ≤ 3 then (s.raised .slotBad [DeckId.code d, byte op.target]).port else s.port } :
        State).setLamp d fun l => { l with claim := false }
    let ends (o : Host.Outcome State Fault Refusal) (y : Deck) : Prop := ∃ t, o = .next t ∧ State.Regranted (failed y) t
    let good : Prop := rec.presence = .present ∧ rec.faults < 4
    (op.phase = .drop → op.watch.isSome = true → x.gateMade = false →
      let next := exec (.dropWatchExpiry d) s
      (op.stage ≤ 1 → good → next = .next (drops (op.stage + 1) x)) ∧
      (op.stage = 2 → next = .next (seeks 3 x)) ∧
      (op.stage = 3 → good → next = .next (drops 4 x)) ∧
      (op.stage = 4 → ends next x) ∧
      ((op.stage ≤ 1 ∨ op.stage = 3) → ¬ good → ends next x)) ∧
    (op.phase = .drop → op.watch.isSome = true → x.gateMade = true → op.stage ≤ 3 →
      exec (.dropWatchExpiry d) s = .next (lifts (op.stage + 1) x)) ∧
    (∀ present, op.stage = 3 → op.phase = .seekIndex → op.drive = some .forward → x.slips ≤ 255 →
      x.gateMade = false → ∀ p, x.position = some p →
      exec (.slotPulse d true present) s = .next (s.setDeck d fun y => { y with
        indexMade := true, slotPresent := present, position := some 0
        slips := if (p + 1) % m.size = 0 then y.slips else min 255 (y.slips + 1)
        state := .busy { op with
          phase := .rotate, autoHomeUsed := false, watch := some 250
          drive := some (shortWay 0 op.target m.size) } })) ∧
    (∀ present, op.stage = 3 → x.rotateEndDue = true →
      let sensed := ({ x with slotPresent := present } : Deck).sense present
      (present = true → rec.faults < 4 → x.gateMade = false →
        exec (.rotateDistanceEnd d present) s = .next (drops 3 sensed)) ∧
      ((present = false ∨ 4 ≤ rec.faults) → x.gateMade = false → ends (exec (.rotateDistanceEnd d present) s) sensed)) ∧
    (op.phase = .lift → op.watch.isSome = true → op.drive = none →
      let next := exec (.gateSensorClears d) s
      let clear := { x with gateMade := false }
      ((op.stage = 1 ∨ op.stage = 2 ∨ op.stage = 4) → good → next = .next (drops op.stage clear)) ∧
      (op.stage = 3 → next = .next (seeks 3 clear)) ∧
      (op.stage = 5 → ∃ t, next = .next t ∧ State.Regranted ((s.setDeck d fun y => { y with
        gateMade := false, state := .idle .empty }).setLamp d fun l => { l with claim := false }) t))

/-- The end of SETTLE: the CHANGE ends with the gate LOADED, its slot's fault count up by 1 for a drop at ladder stage 1
or 2 and by 2 at stage 3 or 4 (7 at most, SLOT_BAD raised when it goes from 3 or less to 4 or more), the dark claim is
released, and the preload that waited for it is READY. -/
def Obligations.SettleEnd : Prop :=
  ∀ (s : State) (d : DeckId) (op : Operation) (m : TrayMap) (r : SlotRecord) (pre : Preload) (f : Frame),
    s.Ok → s.blk.noFade → (s.blk.deck d).state = .busy op → op.phase = .settle → op.resetting = false →
    op.stopHeld = false → op.retargetHeld = none → op.stage ≤ 4 → (s.blk.deck d).map = some m →
    (s.blk.deck d).position = some op.target → m.slots[op.target]? = some r → 1 ≤ op.target → op.target < m.size →
    s.blk.pres.transition = none → s.blk.pres.stopped d = false → s.blk.pres.preload = some pre → pre.deck = d →
    s.blk.pres.preloadHeld = false → s.blk.pres.frame? pre.frame = some f → f.slot = op.target →
    let faults :=
      if op.stage = 0 then r.faults else min 7 (r.faults + if op.stage ≤ 2 then 1 else 2)
    let ended : State := (((s.setDeck d fun x => { x with
        state := .idle (.loaded op.target)
        map := some { m with slots := m.slots.modify op.target fun r => { r with faults := faults } } }).setLamp d
          fun l => { l with claim := false }).setPres fun p => { p with preload := some { pre with state := .ready } })
    ∃ t, exec (.settleEnd d) s = .next t ∧
      State.Regranted (if r.faults ≤ 3 ∧ 4 ≤ faults then
        { ended with port := (s.raised .slotBad [DeckId.code d, byte op.target]).port } else ended) t

/-! ## Show settings -/

/-- SET_DEFAULT_CLASS, SET_MASTER_LEVEL, SET_LOOP, SET_PAIRING and SET_MODE write their setting and answer OK at once; a
value out of range is refused BAD_ARGUMENT, SET_PAIRING in SHOW or PROGRAM mode WRONG_MODE and outside EMPTY
WRONG_STATE, and PROGRAM while the tape plays or records WRONG_STATE. A new master level ramps the lamp on screen over
0.5 s when nothing is granted and blackout is off. A SET_PAIRING that sets MIRROR compares the maps of two decks that
have both been read. Leaving SHOW flushes the CUE queue and the held cue, past which the expected sequence then stands.
Model's choice: SET_PAIRING answers WRONG_MODE before BAD_ARGUMENT, as R105's words lead to them (log 45), and the
CENSUS_MISMATCH of that compare joins before the command's OK (log 72). -/
def Obligations.ShowSettings : Prop :=
  ∀ (s : State) (tag v w : Byte) (on : Bool) (q : Pairing) (m : Mode),
    (s.Takes 0x37 →
      (v.toNat ≤ 7 → exec (.setDefaultClass tag v) s =
        .next ((s.answered 0x37 tag .ok []).setPres fun p => { p with defaultClass := v.toNat })) ∧
      (7 < v.toNat → exec (.setDefaultClass tag v) s = .next (s.answered 0x37 tag .badArgument []))) ∧
    (s.Takes 0x38 →
      ((v.toNat < 10 ∨ 100 < v.toNat) → exec (.setMasterLevel tag v) s = .next (s.answered 0x38 tag .badArgument [])) ∧
      (10 ≤ v.toNat → v.toNat ≤ 100 →
        (s.blk.pres.screen = none ∨ s.blk.pres.granted.isSome = true ∨ s.blk.pres.blackout = true) →
        exec (.setMasterLevel tag v) s =
          .next ((s.answered 0x38 tag .ok []).setPres fun p => { p with master := v.toNat })) ∧
      (∀ sc f, 10 ≤ v.toNat → v.toNat ≤ 100 → s.blk.noFade → s.blk.pres.state = .showing → s.blk.pres.screen = some sc →
        s.blk.pres.granted = none → s.blk.pres.blackout = false → s.blk.pres.hold ≠ .expired →
        s.blk.pres.frame? s.blk.pres.current = some f →
        let level := f.level * v.toNat / 100
        ∃ t, exec (.setMasterLevel tag v) s = .next t ∧
          State.Regranted (((s.answered 0x38 tag .ok []).setPres fun p => { p with master := v.toNat }).setLamp sc.deck
            fun l => { l with
              commanded := level
              ramp := if l.state = .off ∨ l.state = .dead ∨ (t.blk.lamp sc.deck).output = level then none
                else some { start := l.output, target := level, total := 500, left := 500 } }) t)) ∧
    (s.Takes 0x36 → s.blk.pres.preload = none →
      (1 ≤ v.toNat → v.toNat ≤ w.toNat → w.toNat ≤ 200 → (on = true → w.toNat ≤ s.blk.pres.frames.length) →
        exec (.setLoop tag v w (Bool.code on)) s = .next ((s.answered 0x36 tag .ok []).setPres fun p =>
          { p with loopStart := v.toNat, loopEnd := w.toNat, loopOn := on })) ∧
      ((v.toNat = 0 ∨ w.toNat < v.toNat ∨ 200 < w.toNat ∨ (on = true ∧ s.blk.pres.frames.length < w.toNat)) →
        exec (.setLoop tag v w (Bool.code on)) s = .next (s.answered 0x36 tag .badArgument []))) ∧
    (s.Takes 0x35 →
      ((s.blk.pres.mode = .show ∨ s.blk.pres.mode = .program) →
        exec (.setPairing tag v) s = .next (s.answered 0x35 tag .wrongMode [])) ∧
      (s.blk.pres.mode ≠ .show → s.blk.pres.mode ≠ .program → 2 < v.toNat →
        exec (.setPairing tag v) s = .next (s.answered 0x35 tag .badArgument [])) ∧
      (s.blk.pres.mode ≠ .show → s.blk.pres.mode ≠ .program → pairingOf v = some q →
        (s.blk.pres.state ≠ .empty → exec (.setPairing tag v) s = .next (s.answered 0x35 tag .wrongState [])) ∧
        (s.blk.pres.state = .empty → (q ≠ .mirror ∨ s.blk.pres.censusA = false ∨ s.blk.pres.censusB = false) →
          exec (.setPairing tag v) s =
            .next ((s.answered 0x35 tag .ok []).setPres fun p => { p with pairing := q })) ∧
        (s.blk.pres.state = .empty → q = .mirror → s.blk.pres.censusA = true → s.blk.pres.censusB = true →
          s.port.out.length + s.port.reserved + 2 ≤ 24 →
          let c := compareMaps s.blk.deckA s.blk.deckB
          let event := [byte c.total, Bool.code c.overflow, byte c.passA, byte c.passB]
          exec (.setPairing tag v) s =
            .next (((if c.total = 0 then s else s.raised .censusMismatch event).answered 0x35 tag .ok []).setPres fun p =>
              { p with pairing := .mirror, mismatch := some c })))) ∧
    (s.Takes 0x34 →
      (3 < v.toNat → exec (.setMode tag v) s = .next (s.answered 0x34 tag .badArgument [])) ∧
      (modeOf v = some s.blk.pres.mode → exec (.setMode tag v) s = .next (s.answered 0x34 tag .ok [])) ∧
      (modeOf v = some .program → s.blk.pres.mode ≠ .program →
        (s.blk.tape.transport = .playing ∨ s.blk.tape.transport = .recording) →
        exec (.setMode tag v) s = .next (s.answered 0x34 tag .wrongState [])) ∧
      (modeOf v = some m → m ≠ s.blk.pres.mode → s.blk.pres.mode ≠ .show → s.blk.tape.transport = .stopped →
        exec (.setMode tag v) s = .next ((s.answered 0x34 tag .ok []).setPres fun p => { p with mode := m })) ∧
      (modeOf v = some m → m ≠ .show → s.blk.pres.mode = .show →
        (m = .program → s.blk.tape.transport ≠ .playing ∧ s.blk.tape.transport ≠ .recording) →
        exec (.setMode tag v) s = .next (((({ s with arb := { s.arb with cue := [] } } : State).answered 0x34 tag .ok
          []).setPres fun p => { p with mode := m }).setTape fun x => match x.held with
            | some h => { x with held := none, expected := some ((h.seq + 1) % 16) }
            | none => x)))

/-- The hold timer's expiry: nothing while it does not run (model's choice, log 5); else it is EXPIRED, and a lamp on
screen whose output stands above 40 is ramped to 40 over 2 s, with a HOLD_ECONOMY event, when nothing is granted. -/
def Obligations.HoldTimerExpiry : Prop :=
  ∀ (s : State) (sc : Screen) (n : Nat), s.Ok →
    let expired (s : State) : State := s.setPres fun p => { p with hold := .expired }
    ((∀ k, s.blk.pres.hold ≠ .running k) → exec .holdTimerExpiry s = .next s) ∧
    (s.blk.pres.hold = .running n → s.blk.pres.screen = some sc → s.blk.pres.state = .showing →
      s.blk.pres.granted = none →
      ((s.blk.lamp sc.deck).output ≤ 40 → exec .holdTimerExpiry s = .next (expired s)) ∧
      (40 < (s.blk.lamp sc.deck).output → s.blk.noFade → ∃ t, exec .holdTimerExpiry s = .next t ∧
        State.Regranted ((expired (s.raised .holdEconomy [byte s.blk.pres.current])).setLamp sc.deck fun l => { l with
          commanded := 40
          ramp := if (t.blk.lamp sc.deck).output = 40 then none
            else some { start := l.output, target := 40, total := 2000, left := 2000 } }) t))

/-! ## Lamps and cooling -/

/-- LAMP_ON, LAMP_OFF and LAMP_REPLACED by the lamp's state: refused, answered at once, or withheld until the strike
ends. A lamp put out while LIT starts its restrike inhibit of 3 s; one that waits in its restrike inhibit or in a retry
gap is OFF at once with the inhibit as it stands. The LAMP_ON commands that waited are answered ABORTED before the
LAMP_OFF is answered, and a ramp completes. A lamp that LAMP_REPLACED takes out of DEAD is marked until it is lit.
Model's choice: that mark (log 67), the strike attempts left standing when a lamp goes OFF (log 39), the relight that is
owed left standing when a LAMP_ON strikes an OFF lamp (log 74), and the order of the two answers (log 80). -/
def Obligations.LampCommands : Prop :=
  ∀ (s : State) (tag deck : Byte) (d : DeckId), deckOf deck = some d →
    let l := s.blk.lamp d
    (s.Takes 0x40 →
      (s.blk.lcu.power ≠ .active → exec (.lampOn tag deck) s = .next (s.answered 0x40 tag .wrongPowerState [])) ∧
      (s.blk.lcu.power = .active → s.blk.lcu.zone = .critical →
        exec (.lampOn tag deck) s = .next (s.answered 0x40 tag .thermal [])) ∧
      (s.blk.lcu.power = .active → s.blk.lcu.zone ≠ .critical →
        (l.state = .dead → exec (.lampOn tag deck) s = .next (s.answered 0x40 tag .wrongState [])) ∧
        (l.state = .lit → exec (.lampOn tag deck) s = .next (s.answered 0x40 tag .ok [])) ∧
        (l.onItsWay = true → exec (.lampOn tag deck) s = .next ((s.withheld 0x40 tag).setLamp d fun l =>
          { l with onWaiting := l.onWaiting ++ [s.ticket tag] })) ∧
        (l.state = .off → s.blk.noFade → ∃ t, exec (.lampOn tag deck) s = .next t ∧
          State.Regranted ((s.withheld 0x40 tag).setLamp d fun l =>
            if l.inhibit.isSome then { l with state := .inhibit, onWaiting := l.onWaiting ++ [s.ticket tag] }
            else { l with
              state := .striking .softStart 400 false, attempts := 0
              onWaiting := l.onWaiting ++ [s.ticket tag] }) t))) ∧
    (s.Takes 0x41 →
      (l.state = .off → exec (.lampOff tag deck) s =
        .next ((s.answered 0x41 tag .ok []).setLamp d fun l => { l with relightOwed := false })) ∧
      (l.state = .dead → exec (.lampOff tag deck) s = .next (s.answered 0x41 tag .ok [])) ∧
      (∀ step left b, l.state = .striking step left b → step ≠ .gap → exec (.lampOff tag deck) s =
        .next ((s.withheld 0x41 tag).setLamp d fun l =>
          { l with state := .striking step left true, offWaiting := l.offWaiting ++ [s.ticket tag] })) ∧
      (∀ after n, l.state = .swapping after n → exec (.lampOff tag deck) s =
        .next ((s.withheld 0x41 tag).setLamp d fun l =>
          { l with state := .swapping .off n, offWaiting := l.offWaiting ++ [s.ticket tag] })) ∧
      (s.blk.noFade → s.blk.pres.transition = none → s.blk.pres.levelWait ≠ some d →
        let out : State := { (s.withheld 0x41 tag).setLamp d (fun l => { l with
            state := .off, relightOwed := false, ramp := none, onWaiting := [], offWaiting := [] }) with
          port := (((s.withheld 0x41 tag).port.answeredAll l.onWaiting .aborted).answeredAll l.offWaiting
            .ok).deliverAnswer (s.ticket tag) .ok [] }
        let dark (t : State) : Prop := (t.blk.lamp d).output = 0 ∧ (t.blk.lamp d).granted = 0
        (l.state = .lit → ∃ t, exec (.lampOff tag deck) s = .next t ∧ dark t ∧
          State.Regranted ((out.setLamp d fun l => { l with inhibit := some 3000 }).setLcu fun c =>
            { c with sinceExtinguish := 0 }) t) ∧
        ((l.state = .inhibit ∨ ∃ n b, l.state = .striking .gap n b) →
          ∃ t, exec (.lampOff tag deck) s = .next t ∧ dark t ∧ State.Regranted out t))) ∧
    (s.Takes 0x42 →
      ((l.state = .off ∨ l.state = .dead) → s.blk.noFade → ∃ t, exec (.lampReplaced tag deck) s = .next t ∧
        State.Regranted ((s.answered 0x42 tag .ok []).setLamp d fun l =>
          { l with
            state := .off, primary := .good, spare := .good, active := .primary, attempts := 0
            unlit := l.unlit || decide (l.state = .dead) }) t) ∧
      (l.state ≠ .off → l.state ≠ .dead →
        exec (.lampReplaced tag deck) s = .next (s.answered 0x42 tag .wrongState [])))

/-- STANDBY is answered OK in STANDBY and withheld in COOLDOWN; in ACTIVE it enters COOLDOWN with its answer withheld: a
LIT lamp goes out with its commanded level 0 and no ramp, and the show position returns to frame 0. WAKE answers OK; out
of ACTIVE it moves the power state to ACTIVE and answers the waiting STANDBY commands ABORTED. Model's choice (log 62):
WAKE's OK joins before them. -/
def Obligations.PowerCommands : Prop :=
  ∀ (s : State) (tag : Byte),
    (s.Takes 0x45 →
      (s.blk.lcu.power = .standby → exec (.standby tag) s = .next (s.answered 0x45 tag .ok [])) ∧
      (s.blk.lcu.power = .cooldown → exec (.standby tag) s = .next ((s.withheld 0x45 tag).setLcu fun c =>
        { c with standbyWaiting := c.standbyWaiting ++ [s.ticket tag] })) ∧
      (s.blk.lcu.power = .active → s.blk.noFade → s.blk.pres.transition = none → s.blk.pres.granted = none →
        s.blk.pres.commitDeferred = false → s.blk.tape.transport = .stopped → s.blk.deckA.changing = false →
        s.blk.deckB.changing = false → s.blk.lampA.state = .lit → s.blk.lampA.onWaiting = [] →
        s.blk.lampA.offWaiting = [] → s.blk.lampB.state = .off → s.blk.lampB.onWaiting = [] →
        ∃ t, exec (.standby tag) s = .next t ∧ t.blk.lampA.output = 0 ∧ t.blk.lampA.granted = 0 ∧
          State.Regranted ((((((s.withheld 0x45 tag).setLcu fun c => { c with
              power := .cooldown, standbyWaiting := c.standbyWaiting ++ [s.ticket tag], sinceExtinguish := 0 }).setPres
            fun p => { p with
              current := 0, screen := none, service := .normal, hold := .absent, transition := none, frozen := false
              preload := none, preloadHeld := false, orderA := none, orderB := none }).setLamp .a fun l => { l with
                state := .off, commanded := 0, ramp := none, relightOwed := false, inhibit := some 3000 }).setLamp .b
                  fun l => { l with commanded := 0, ramp := none, relightOwed := false })) t)) ∧
    (s.Takes 0x46 →
      (s.blk.lcu.power = .active → exec (.wake tag) s = .next (s.answered 0x46 tag .ok [])) ∧
      (s.blk.lcu.power ≠ .active → ∃ t, exec (.wake tag) s = .next t ∧
        State.Regranted ({ (s.answered 0x46 tag .ok []).setLcu (fun c =>
            { c with power := .active, standbyWaiting := [] }) with
          port := (s.answered 0x46 tag .ok []).port.answeredAll s.blk.lcu.standbyWaiting .aborted }) t))

/-- The strike: after 400 ms of soft start 200 ms are left to see current; current makes the lamp LIT at output 0 and
answers the waiting LAMP_ON commands OK; without it an attempt is counted and the next follows a gap of 1 s, until the
third has failed: the filament is then FAILED and the changer moves to the other, if it is GOOD. A strike that waited
for the restrike inhibit begins when it has run out. Model's choice: the mark of a replaced lamp ends when it is lit
(log 67), and the attempts are left standing in SWAPPING (log 39). -/
def Obligations.Strike : Prop :=
  ∀ (s : State) (d : DeckId) (n : Nat), s.Ok → s.blk.noFade → s.blk.pres.transition = none →
    let l := s.blk.lamp d
    (∀ b, l.state = .striking .softStart n b → exec (.softStartEnd d) s =
      .next (s.setLamp d fun l => { l with state := .striking .verify 200 b })) ∧
    (∀ step, l.state = .striking step n false → step ≠ .gap → ∃ t, exec (.filamentCurrentSeen d) s = .next t ∧
      (t.blk.lamp d).output = 0 ∧
      State.Regranted { s.setLamp d (fun l => { l with
          state := .lit, attempts := 0, onWaiting := [], unlit := false
          ramp := l.ramp.map fun r => { r with start := 0, total := r.left } }) with
        port := s.port.answeredAll l.onWaiting .ok } t) ∧
    (l.state = .striking .verify n false → l.attempts < 2 → ∃ t, exec (.strikeVerifyExpiry d) s = .next t ∧
      State.Regranted (s.setLamp d fun l =>
        { l with state := .striking .gap 1000 false, attempts := l.attempts + 1 }) t) ∧
    (l.state = .striking .verify n false → l.attempts = 2 → l.active = .primary → l.spare = .good →
      ∃ t, exec (.strikeVerifyExpiry d) s = .next t ∧
        State.Regranted ((s.raised .lampSwap [DeckId.code d, 1]).setLamp d fun l =>
          { l with primary := .failed, state := .swapping .strike 2500 }) t) ∧
    (∀ b, l.state = .striking .gap n b → ∃ t, exec (.retryGapEnd d) s = .next t ∧
      State.Regranted (s.setLamp d fun l => { l with state := .striking .softStart 400 false }) t) ∧
    (l.inhibit.isSome = true → l.state = .off →
      exec (.restrikeInhibitExpiry d) s = .next (s.setLamp d fun l => { l with inhibit := none })) ∧
    (l.inhibit.isSome = true → l.state = .inhibit → ∃ t, exec (.restrikeInhibitExpiry d) s = .next t ∧
      State.Regranted (s.setLamp d fun l =>
        { l with inhibit := none, state := .striking .softStart 400 false, attempts := 0 }) t)

/-- A burnout marks the active filament FAILED: the changer moves to the other one, with LAMP_SWAP, or the lamp is DEAD,
with LAMP_DEAD, when that one has failed too. The changer's confirmation makes the other filament active and begins a
strike; without it for 2.5 s the lamp is DEAD, and the commands that wait for it are answered FAULT. A ramp of a lamp
that is DEAD completes at once, and so does one that had reached its target when its lamp burned out. Model's choice: a
burnout of a lamp that is not LIT changes nothing (log 5), a ramp at its target completes at the burnout and the reports
of a lamp that ends come before its ramp's (log 68), a DEAD or SWAPPING lamp keeps its attempts (log 39), LAMP_DEAD
joins before the two kinds of answers (log 81), and the LAMP_ON commands are answered before the LAMP_OFF commands (log
80). -/
def Obligations.BurnoutAndSwap : Prop :=
  ∀ (s : State) (d : DeckId), s.Ok → s.blk.noFade → s.blk.unconcerned d →
    s.blk.pres.levelWait ≠ some d →
    let l := s.blk.lamp d
    (l.state = .lit → l.active = .primary → l.spare = .good → ∃ t, exec (.burnout d) s = .next t ∧
      (t.blk.lamp d).output = 0 ∧
      State.Regranted ((s.raised .lampSwap [DeckId.code d, 1]).setLamp d fun l =>
        { l with
          primary := .failed, state := .swapping .strike 2500
          ramp := match l.ramp with
            | some r => if l.output = r.target ∨ (r.left = 0 ∧ l.output = l.granted) then none else some r
            | none => none }) t) ∧
    (l.state = .lit → l.active = .spare → l.primary = .failed → l.onWaiting = [] → l.offWaiting = [] →
      ∃ t, exec (.burnout d) s = .next t ∧ (t.blk.lamp d).output = 0 ∧
        State.Regranted ((s.raised .lampDead [DeckId.code d, 1, 1]).setLamp d fun l =>
          { l with spare := .failed, state := .dead, relightOwed := false, ramp := none }) t) ∧
    (l.state ≠ .lit → exec (.burnout d) s = .next s) ∧
    (∀ n, l.state = .swapping .strike n → ∃ t, exec (.changerConfirm d) s = .next t ∧
      State.Regranted (s.setLamp d fun l => { l with
        active := match l.active with | .primary => .spare | .spare => .primary
        state := .striking .softStart 400 false, attempts := 0 }) t) ∧
    (∀ after n, l.state = .swapping after n → ∃ t, exec (.changerConfirmTimeout d) s = .next t ∧
      State.Regranted { s.setLamp d (fun l => { l with
          state := .dead, relightOwed := false, ramp := none, onWaiting := [], offWaiting := [] }) with
        port := (((s.raised .lampDead [DeckId.code d, Health.code l.primary, Health.code l.spare]).port.answeredAll
          l.onWaiting .fault).answeredAll l.offWaiting .fault) } t)

/-- A ramp step of 20 ms. On the one lamp that is LIT: its ramp has 20 ms less to go, its grant is what its line and the
heat budget admit, and its output falls to the grant or rises towards it by the larger of 2 and the rise of the line. On
two LIT lamps the priority lamp's grant is taken from the heat budget first, and the other's from what is left of it. A
line is whole at its ends and at every value that divides without a remainder. A ramp that is complete is removed and
nothing else follows when no request or transition waits for it; the level request that waits for it ends OK. A dark
fade that has run its 100 ms leaves the output at 0, and the LIFT that waited for darkness begins with its watch of 500
ms. Model's choice: the line moves in these steps (log 3), the last one cut short where less than 20 ms are left (log
64), a value between two whole percents is one of the two, free (log 8), the output rises by the larger of 2 and the
line's rise (log 54), and a RAMP_COMPLETION of a ramp that is not complete changes nothing (log 5). -/
def Obligations.Ramps : Prop :=
  (∀ start target total left, left ≤ total →
     let num := start * left + target * (total - left)
     let v := lineValue start target total left
     (left = 0 → v = target) ∧ (0 < total → left = total → v = start) ∧
     (0 < total → num % total = 0 → v = num / total) ∧
     (0 < total → v = num / total ∨ v = num / total + 1)) ∧
  ∀ (s : State) (d : DeckId), s.Ok →
    let l := s.blk.lamp d
    let o := s.blk.lamp d.other
    let stepped (x : Lamp) : Option Ramp := x.ramp.map fun r => { r with left := r.left - 20 }
    let demand (x : Lamp) (ramp : Option Ramp) : Nat := match ramp with
      | some r => lineValue r.start r.target r.total r.left
      | none => x.commanded
    let risen (x : Lamp) : Nat := x.output + max 2 (demand x (stepped x) - demand x x.ramp)
    let zone : Zone := if s.blk.lcu.fanFault then .critical else s.blk.lcu.readingZone
    let budget := match zone with | .normal => 200 | .warm => 150 | .hot => 100 | .critical => 0
    let g := min (demand l (stepped l)) budget
    let h := min (demand o (stepped o)) (budget - g)
    (s.blk.noFade → s.blk.lcu.priority = d → l.state = .lit → l.claim = false →
      (o.state = .off →
        ∃ t, exec .rampStep s = .next t ∧ (t.blk.lamp d).granted = g ∧ (t.blk.lamp d).output = min g (risen l) ∧
          State.Regranted (s.setLamp d fun l => { l with ramp := stepped l }) t) ∧
      (o.state = .lit → o.claim = false →
        ∃ t, exec .rampStep s = .next t ∧ (t.blk.lamp d).granted = g ∧ (t.blk.lamp d).output = min g (risen l) ∧
          (t.blk.lamp d.other).granted = h ∧ (t.blk.lamp d.other).output = min h (risen o) ∧
          State.Regranted ((s.setLamp d fun l => { l with ramp := stepped l }).setLamp d.other fun l =>
            { l with ramp := stepped l }) t)) ∧
    (l.rampDone = false → exec (.rampCompletion d) s = .next s) ∧
    (l.rampDone = true → s.blk.noFade → s.blk.pres.transition = none → s.blk.pres.levelWait ≠ some d →
      ∃ t, exec (.rampCompletion d) s = .next t ∧
        State.Regranted (s.setLamp d fun l => { l with ramp := none }) t) ∧
    (∀ r k, l.rampDone = true → s.blk.noFade → s.blk.pres.levelWait = some d → s.blk.pres.frozen = false →
      s.blk.pres.mode ≠ .program → s.blk.pres.granted = some r → r.source = .cport → r.kind = .dark →
      r.ticket = some k → ∃ t, exec (.rampCompletion d) s = .next t ∧
        State.Regranted { ((s.setLamp d fun l => { l with ramp := none }).setPres fun p =>
            { p with granted := none, levelWait := none, turnedOn := false }) with
          port := s.port.deliverAnswer k .ok
            [byte s.blk.pres.current, Service.code s.blk.pres.service, Bool.code s.blk.pres.blackout] } t) ∧
    (∀ f op, l.fade = some f → l.claim = true → o.fade = none →
      (s.blk.deck d).state = .busy op → op.phase = .lift → op.watch = none → (s.blk.deck d).gateMade = true →
      ∃ t, exec (.darkFadeEnd d) s = .next t ∧ (t.blk.lamp d).output = 0 ∧
        State.Regranted ((s.setLamp d fun l => { l with fade := none }).setDeck d fun x =>
          { x with state := .busy { op with watch := some 500 } }) t)

/-- What a transition does when a ramp or a CHANGE that it waits for ends, and its arrivals. The last ramp of a CROSSING
or the fade-in of a CHANGING transition brings the arrival: the target becomes the current frame, NORMAL or, after a
re-selection, TWIN, its deck and slot come on screen as the priority deck, the hold timer starts from the frame's limit,
and the granted command is answered OK with the frame and the service state. The fade of the lamp on screen alone brings
the dark arrival, with FRAME_DARK before the answer, or the arrival in EMPTY. The fade-out of a CHANGING transition is
followed by the CHANGE to the target's slot on the same deck, and the end of its SETTLE by the fade-in over half the
class time, past the point of no return. The arrivals are stated in SINGLE pairing, which has no preload. -/
def Obligations.Arrival : Prop :=
  ∀ (s : State) (d : DeckId) (tr : Transition), s.Ok → s.blk.noFade → s.blk.pres.transition = some tr →
    s.blk.pres.frozen = false → s.blk.pres.levelWait = none → s.blk.pres.commitDeferred = false →
    let p := s.blk.pres
    let ramped : State := s.setLamp d fun l => { l with ramp := none }
    (∀ r k, (s.blk.lamp d).rampDone = true → p.mode ≠ .show → p.mode ≠ .program → p.granted = some r →
      r.source = .cport → r.ticket = some k → r.kind ≠ .dark →
      let arrived (port : Port) (service : Service) (s : State) (f : Pres → Pres) : State :=
        { s.setPres (fun p => { (f p).ended with transition := none, service := service }) with
          port := port.deliverAnswer k .ok [byte (f p).current, Service.code service] }
      (∀ f, p.frame? tr.target = some f → p.pairing = .single →
        ((tr.stand = .fadeIn ∧ tr.serving = some d) ∨ (∃ c, tr.stand = .crossing c ∧ c.held = false ∧
          c.incoming = some d ∧ (c.awaitOut = false ∨ c.outgoing = some d))) →
        ∃ t, exec (.rampCompletion d) s = .next t ∧ State.Regranted
          (arrived s.port (if tr.reselected then .twin else .normal) (ramped.setLcu fun c => { c with priority := d })
            fun p => { p with
              current := tr.target, screen := some { deck := d, slot := f.slot }
              hold := if f.hold = 0 then .absent else .running (f.hold * 1000) }) t) ∧
      (∀ c, tr.stand = .crossing c → c.held = false → c.outgoing = some d → c.incoming = none → c.awaitIn = false →
        (∀ service, c.dark = some service → p.pairing = .single →
          ∃ t, exec (.rampCompletion d) s = .next t ∧ State.Regranted
            (arrived (s.raised .frameDark [byte tr.target, Service.code service]).port service ramped fun p =>
              { p with current := tr.target, screen := none, hold := .absent }) t) ∧
        (c.dark = none → ∃ t, exec (.rampCompletion d) s = .next t ∧ State.Regranted
          (arrived s.port .normal ramped fun p => { p with current := 0, screen := none, hold := .absent }) t))) ∧
    (∀ k f m, (s.blk.deck d).state = .idle (.loaded k) → p.frame? tr.target = some f → (s.blk.deck d).map = some m →
      tr.serving = some d → tr.stand = .fadeOut → (s.blk.lamp d).rampDone = true → p.stopped d = false →
      (s.blk.deck d).gateMade = true → (s.blk.lamp d).claim = false → (s.blk.lamp d).output = 0 → f.slot < m.size →
      f.slot ≠ k → ∃ t, exec (.rampCompletion d) s = .next t ∧ State.Regranted
        (((s.setLamp d fun l => { l with ramp := none, claim := true }).setPres fun p =>
          { p with transition := some { tr with stand := .change } }).setDeck d fun x => { x with
            state := .busy { Operation.new .change f.slot .presentation false with
              phase := .lift, watch := some 500 } }) t) ∧
    (∀ op f, (s.blk.deck d).state = .busy op → p.frame? tr.target = some f → tr.serving = some d →
      tr.stand = .change → tr.lampLost = false → tr.cls ≠ 0 → op.phase = .settle → op.stage = 0 → op.resetting = false →
      op.stopHeld = false → op.retargetHeld = none → op.target = f.slot → (s.blk.deck d).position = some f.slot →
      p.stopped d = false → p.preload = none → (s.blk.lamp d).state = .lit → (s.blk.lamp d).output = 0 →
      tr.target ≠ p.current → p.blackout = false →
      let level := f.level * p.master / 100
      level ≠ 0 → ∃ t, exec (.settleEnd d) s = .next t ∧ State.Regranted
        (((s.setLamp d fun l => { l.rampedTo level (classMs tr.cls / 2) with claim := false }).setPres fun p =>
          { p with transition := some { tr with stand := .fadeIn, past := true } }).setDeck d fun x =>
            { x with state := .idle (.loaded f.slot) }) t)

/-- A CHANGE that a PENDING transition waits on ends EMPTY_SLOT or BAD_SLOT at its slot: the deck is excluded for it.
Outside MIRROR pairing the transition ends dark with that reason, at once with nothing on screen, FRAME_DARK before the
answer, and else by a fade of the lamp on screen. In MIRROR it re-selects: the twin that is on screen fades out in
CHANGING, and one that is not turns to the slot. A drop that fails at ladder stage 2 in MIRROR is past the takeover
point: the ladder goes on at stage 3, and the transition leaves for the twin on screen, which fades out in CHANGING, or
stays with its deck where no candidate is left. Model's choice (log 9): the reason that a takeover excludes the deck for
is one of the four, free; (log 13) the twin on screen is CHANGING after a re-selection or a takeover, LOADED at the slot
or not. -/
def Obligations.FailedChange : Prop :=
  ∀ (s : State) (d : DeckId) (op : Operation) (m : TrayMap) (rec : SlotRecord) (tr : Transition) (f : Frame), s.Ok →
    s.blk.noFade → (s.blk.deck d).state = .busy op → (s.blk.deck d).map = some m → m.slots[op.target]? = some rec →
    s.blk.pres.transition = some tr → s.blk.pres.frame? tr.target = some f →
    op.kind = .change → op.stopHeld = false → op.retargetHeld = none → op.suspended = none → op.resetting = false →
    1 ≤ op.target → op.target < m.size → f.slot = op.target → tr.serving = some d → tr.stand = .pending →
    s.blk.pres.frozen = false → s.blk.pres.stopped d = false → s.blk.pres.preload = none →
    s.blk.pres.levelWait = none →
    let p := s.blk.pres
    let e := d.other
    let y := s.blk.deck e
    let l := s.blk.lamp e
    let twin : Prop := tr.excluded e = none ∧ y.inService = true ∧ l.isDead = false ∧ l.unlit = false
    let fits : Prop := match y.map with
      | some k => op.target < k.size ∧ (match k.slots[op.target]? with
        | some r => r.presence ≠ .empty ∧ r.faults < 4
        | none => False)
      | none => False
    let ramps (x : DeckId) : Prop := (s.blk.lamp x).state = .lit ∧ (s.blk.lamp x).claim = false ∧
      (s.blk.lamp x).output ≠ 0 ∧ tr.cls ≠ 0
    (∀ present, (s.blk.deck d).rotateEndDue = true → op.stage = 0 → (s.blk.lamp d).claim = false →
      (present = false ∨ 4 ≤ rec.faults) →
      let reason : Reason := if present then .bad else .empty
      let service : Service := if present then .darkBad else .darkEmpty
      let failed : Transition := { tr.exclude d reason with reselected := true }
      let ended : State := (s.setDeck d fun x => { ({ x with slotPresent := present } : Deck).sense present with
        state := .idle .empty }).setPres fun p => (p.setOrder d none)
      (∀ r k, p.pairing = .single → p.screen = none → p.mode ≠ .show → p.mode ≠ .program →
        p.commitDeferred = false → p.granted = some r → r.source = .cport → r.ticket = some k → r.kind ≠ .dark →
        exec (.rotateDistanceEnd d present) s = .next { ended.setPres (fun p => { p.ended with
            current := tr.target, transition := none, screen := none, service := service, hold := .absent }) with
          port := (s.raised .frameDark [byte tr.target, Service.code service]).port.deliverAnswer k .ok
            [byte tr.target, Service.code service] }) ∧
      (∀ sc, p.screen = some sc → p.pairing ≠ .mirror → ramps sc.deck →
        (s.blk.lamp sc.deck).output ≤ (s.blk.lamp sc.deck).demand →
        ∃ t, exec (.rotateDistanceEnd d present) s = .next t ∧ State.Regranted
          (((ended.setPres fun p => { p with transition := some { failed with
              serving := none, past := true
              stand := .crossing { outgoing := some sc.deck, incoming := none, awaitOut := true, awaitIn := false
                                   dark := some service, held := false } } }).setLcu fun c =>
            { c with priority := sc.deck }).setLamp sc.deck fun l => l.rampedTo 0 (classMs tr.cls)) t) ∧
      (∀ g, y.state = .idle g → p.pairing = .mirror → twin → fits →
        (∀ sc, p.screen = some sc → sc.deck = e → ramps e → s.blk.lcu.priority = e →
          ∃ t, exec (.rotateDistanceEnd d present) s = .next t ∧ State.Regranted
            ((ended.setPres fun p => { p with transition := some { failed with
                serving := some e, stand := .fadeOut, lampLost := false } }).setLamp e fun l =>
              l.rampedTo 0 (classMs tr.cls / 2)) t) ∧
        (∀ k at', y.map = some k → y.position = some at' → p.screen = none → g = .empty → y.gateMade = false →
          p.stopped e = false → at' ≠ op.target → exec (.rotateDistanceEnd d present) s = .next
            ((ended.setPres fun p => { p with transition := some { failed with serving := some e } }).setDeck e
              fun x => { x with state := .busy { Operation.new .change op.target .presentation false with
                phase := .rotate, watch := some 250, drive := some (shortWay at' op.target k.size) } })))) ∧
    (op.stage = 2 → op.phase = .drop → op.watch.isSome = true → (s.blk.deck d).gateMade = false →
      p.pairing = .mirror → tr.tookOver = false →
      let left (t : State) : Transition :=
        { tr.exclude d (((t.blk.pres.transition.bind fun x => x.excluded d)).getD .bad) with tookOver := true }
      let climbed : State := s.setDeck d fun x => { x with state := .busy { op with
        stage := 3, phase := .seekIndex, pulses := 0, drive := some .forward, watch := some 250 } }
      let excluded (t : State) : Prop := (t.blk.pres.transition.bind fun x => x.excluded d).isSome = true
      (∀ g sc, y.state = .idle g → p.screen = some sc → twin → fits → sc.deck = e → ramps e →
        s.blk.lcu.priority = e → ∃ t, exec (.dropWatchExpiry d) s = .next t ∧ excluded t ∧ State.Regranted
          ((climbed.setPres fun p => { p.setOrder d none with transition := some { left t with
              serving := some e, stand := .fadeOut, lampLost := false, reselected := true } }).setLamp e fun l =>
            l.rampedTo 0 (classMs tr.cls / 2)) t) ∧
      (y.inService = false → ∃ t, exec (.dropWatchExpiry d) s = .next t ∧ excluded t ∧
        t = climbed.setPres fun p => { p with transition := some (left t) }))

/-- FROZEN. The zone enters CRITICAL, here by a fan fault: the show freezes where it stands, a deck that runs a CHANGE
is sent a STOP, the preload is dropped, and a DARK or LEVEL in progress ends OK with the frame, while the lit lamp goes
out with a relight owed. The zone leaves CRITICAL, here by the fan fault's clearing: a lamp that is owed a relight
begins its strike, or waits for its inhibit, and the show goes on: SHOWING ramps its lamp over 0.5 s; a transition
starts again on the deck that selection gives, with every lamp off screen commanded to 0, an IDLE EMPTY deck turning to
the slot and a LOADED one held in its CROSSING until its lamp is lit; a cancelled one fades its slide back in. Model's
choice: at the entry FAN_FAULT joins before ZONE_CHANGE, and ZONE_CHANGE before the answer (log 81); at the exit every
lamp off screen is commanded to 0 (log 21, DEDUCED), and the crossing is held under blackout too (log 91). -/
def Obligations.Frozen : Prop :=
  ∀ (s : State) (d : DeckId), s.Ok → s.blk.noFade →
    let p := s.blk.pres
    let c := s.blk.lcu
    let l := s.blk.lamp d
    let o := s.blk.lamp d.other
    (c.fanWatch.isSome = true → c.fanFault = false → c.readingZone ≠ .critical → p.frozen = false → p.state ≠ .empty →
      l.state = .lit → l.onWaiting = [] → l.offWaiting = [] → o.state = .off → o.ramp = none →
      let stops (x : DeckId) : Bool := (s.blk.deck x).changing && !p.stopped x
      let stopped (x : DeckId) (y : Deck) : Deck := if stops x then { y with state := match y.state with
        | .busy op => .busy { op with stopHeld := true, retargetHeld := none }
        | st => st } else y
      let frozen (q : Pres) : Pres := { q with
        frozen := true, preload := none, preloadHeld := false, orderA := none, orderB := none
        stopA := q.stopA || stops .a, stopB := q.stopB || stops .b
        transition := q.transition.map fun t => { t with
          behindStop := match t.serving with | some x => p.stopped x | none => false } }
      let port := ((s.raised .fanFault []).raised .zoneChange [Zone.code c.readingZone, 3, optByte c.highest, 1]).port
      let out : State := ((((s.setDeck .a (stopped .a)).setDeck .b (stopped .b)).setLamp d fun l => { l with
        state := .off, ramp := none, relightOwed := true, inhibit := some 3000 }).setLcu fun c => { c with
          clearing := 0, fanFault := true, sinceExtinguish := 0 }).setPres frozen
      let gone (x : State) : Prop := ∃ t, exec .fanTachTimeout s = .next t ∧ (t.blk.lamp d).output = 0 ∧
        State.Regranted x t
      (p.transition.isSome = true ∨ p.granted = none → gone { out with port := port }) ∧
      (∀ r k, p.transition = none → p.granted = some r → r.source = .cport → r.kind = .dark → r.ticket = some k →
        p.mode ≠ .program → gone { (out.setPres fun q => q.ended) with
          port := port.deliverAnswer k .ok [byte p.current, Service.code p.service, Bool.code p.blackout] })) ∧
    (c.fanFault = true → c.tachSeen = true → c.readingZone ≠ .critical → p.frozen = true → p.levelWait = none →
      c.power = .active → l.state = .off → o.state = .off → o.relightOwed = false → l.relightOwed = true →
      let relit (l : Lamp) : Lamp := if l.inhibit.isSome then { l with state := .inhibit, relightOwed := false }
        else { l with state := .striking .softStart 400 false, attempts := 0, relightOwed := false }
      let full (f : Frame) : Nat := f.level * p.master / 100
      let levelNow (f : Frame) : Nat :=
        if p.blackout then 0 else if p.hold = .expired then min (full f) 40 else full f
      let dark (l : Lamp) : Lamp := { l with commanded := 0, ramp := none }
      let thawed : State := (({ s with port := (s.raised .zoneChange
            [3, Zone.code c.readingZone, optByte c.highest, 1]).port } : State).setLcu fun c =>
          { c with fanFault := false, clearing := 0 }).setPres fun q => { q with frozen := false }
      (∀ sc f, p.transition = none → p.pairing = .single → p.screen = some sc → p.frame? p.current = some f →
        sc.deck = d → levelNow f ≠ 0 → ∃ t, exec .fanFaultClear s = .next t ∧ State.Regranted
          (thawed.setLamp d fun l => (relit l).rampedTo (levelNow f) 500) t) ∧
      (∀ tr f m rec g, p.transition = some tr → p.frame? tr.target = some f → (s.blk.deck d).map = some m →
        m.slots[f.slot]? = some rec → (s.blk.deck d).state = .idle g → p.screen = none → p.pairing = .alternate →
        f.deck = d → (tr.stand ≠ .cancelFade ∧ tr.stand ≠ .returnChange ∧ tr.stand ≠ .returnFade) → tr.excluded d = none →
        (s.blk.deck d).inService = true → l.unlit = false → f.slot < m.size → rec.presence ≠ .empty → rec.faults < 4 →
        p.stopped d = false →
        let reselected := tr.reselected || (match tr.serving with | some x => (tr.excluded x).isSome | none => false)
        (∀ at', (s.blk.deck d).position = some at' → g = .empty → at' ≠ f.slot → (s.blk.deck d).gateMade = false →
          ∃ t, exec .fanFaultClear s = .next t ∧ State.Regranted ((((thawed.setLamp d fun l => dark (relit l)).setLamp
            d.other dark).setPres fun q => { q with transition := some { tr with
              serving := some d, stand := .pending, reselected := reselected } }).setDeck d fun x => { x with
                state := .busy { Operation.new .change f.slot .presentation false with
                  phase := .rotate, watch := some 250, drive := some (shortWay at' f.slot m.size) } }) t) ∧
        (g = .loaded f.slot → ∃ t, exec .fanFaultClear s = .next t ∧ State.Regranted
          ((((thawed.setLamp d fun l => dark (relit l)).setLamp d.other dark).setPres fun q => { q with
            transition := some { tr with
              serving := some d, past := true, reselected := reselected
              stand := .crossing { outgoing := none, incoming := some d, awaitOut := false, awaitIn := false
                                   dark := none, held := true } } }).setLcu fun c => { c with priority := d }) t)) ∧
      (∀ tr sc f, p.transition = some tr → p.screen = some sc → p.frame? p.current = some f → sc.deck = d →
        (tr.stand = .cancelFade ∨ tr.stand = .returnChange ∨ tr.stand = .returnFade) → tr.lampLost = false →
        (s.blk.deck d).state = .idle (.loaded sc.slot) → tr.cls ≠ 0 → levelNow f ≠ 0 →
        ∃ t, exec .fanFaultClear s = .next t ∧ State.Regranted
          ((thawed.setLamp d fun l => (relit l).rampedTo (levelNow f) (classMs tr.cls / 2)).setPres fun q =>
            { q with transition := some { tr with stand := .returnFade } }) t))

/-- A temperature reading is kept, and the zone follows the highest reading, each zone left only 5 degrees below its
entry threshold. A zone in force that stays raises nothing; one that moves without CRITICAL raises ZONE_CHANGE; the
entry to CRITICAL also puts a LIT lamp out, with a relight owed. A silent sensor counts as 95 degrees. Model's choice
(log 5): a SENSOR_SILENT of a sensor that is silent already changes nothing. -/
def Obligations.Temperature : Prop :=
  ∀ (s : State) (i : Fin 3) (v : Byte) (h : Nat), s.Ok → s.blk.noFade → v.toNat ≤ 150 →
    s.blk.lcu.power = .active → s.blk.lcu.startupHold = false →
    let zoneAfter (z : Zone) (h : Nat) : Zone :=
      if 95 ≤ h ∨ (z = .critical ∧ 90 < h) then .critical
      else if 85 ≤ h ∨ ((z = .critical ∨ z = .hot) ∧ 80 < h) then .hot
      else if 70 ≤ h ∨ (z ≠ .normal ∧ 65 < h) then .warm
      else .normal
    let read (c : Lcu) : Lcu := c.setSensor i { reading := some v.toNat, silent := false, quiet := 0 }
    let old := s.blk.lcu.zone
    ((read s.blk.lcu).highest = some h →
      let z := zoneAfter s.blk.lcu.readingZone h
      let kept : State := s.setLcu fun c => { read c with readingZone := z }
      let new := kept.blk.lcu.zone
      (new = old → ∃ t, exec (.temperatureReading i v) s = .next t ∧ State.Regranted kept t) ∧
      (new ≠ old → new ≠ .critical → old ≠ .critical → ∃ t, exec (.temperatureReading i v) s = .next t ∧
        State.Regranted
          { kept with port := (s.raised .zoneChange [Zone.code old, Zone.code new, byte h, 0]).port } t) ∧
      (new ≠ old → new = .critical → s.blk.pres.state = .empty → s.blk.pres.levelWait ≠ some .a →
        s.blk.lampA.state = .lit → s.blk.lampA.onWaiting = [] →
        s.blk.lampA.offWaiting = [] → s.blk.lampB.state = .off → ∃ t, exec (.temperatureReading i v) s = .next t ∧
          t.blk.lampA.output = 0 ∧
          State.Regranted ({ (kept.setLamp .a fun l =>
              { l with state := .off, relightOwed := true, ramp := none, inhibit := some 3000 }).setLcu (fun c =>
                { c with sinceExtinguish := 0 }) with
            port := (s.raised .zoneChange [Zone.code old, 3, byte h, 0]).port }) t)) ∧
    ((s.blk.lcu.sensor i).silent = true → exec (.sensorSilent i) s = .next s) ∧
    ((s.blk.lcu.sensor i).silent = false → s.blk.lcu.zone = .critical → ∃ t, exec (.sensorSilent i) s = .next t ∧
      State.Regranted (s.setLcu fun c =>
        { c.setSensor i { c.sensor i with silent := true } with readingZone := .critical }) t)

/-- The fan. Its speed is the first row that holds: FULL with a fan fault, a HOT or CRITICAL zone, COOLDOWN or the
start-up hold; HIGH in a WARM zone; MEDIUM with the two outputs above 100; LOW with a lamp STRIKING or LIT or a sensor
that counts 50 or more; else OFF. A fan that starts is watched for 2 s, one that stops is not. A pulse of the tach
restarts the watch of 2 s on a running fan. The watch's end starts the count towards clearing again while a fan fault
stands, and else raises FAN_FAULT and puts the zone in force in CRITICAL. A fan fault that clears gives the reading zone
back. The 60 s count moves a cool part from COOLDOWN to STANDBY, with COOLDOWN_DONE, and answers the waiting STANDBY
commands OK. Model's choice: COOLDOWN_COUNT_EXPIRY says that the 60 s have run, whatever the count, and raises it to
them (log 4), and a row whose fan does not run or whose power state is another changes nothing (log 5); FAN_FAULT joins
before ZONE_CHANGE, and COOLDOWN_DONE before the answers (log 81). -/
def Obligations.FanAndCooldown : Prop :=
  ∀ (s : State), s.Ok → s.blk.noFade →
    let c := s.blk.lcu
    let burning (l : Lamp) : Bool := match l.state with | .lit | .striking .. => true | _ => false
    let warm : Bool := [c.sensor0, c.sensor1, c.sensor2].any fun x =>
      x.silent || (match x.reading with | some v => decide (50 ≤ v) | none => false)
    let speed (outputs : Nat) : Fan :=
      if c.fanFault ∨ c.readingZone = .hot ∨ c.readingZone = .critical ∨ c.power = .cooldown ∨ c.startupHold then .full
      else if c.readingZone = .warm then .high
      else if 100 < outputs then .medium
      else if burning s.blk.lampA ∨ burning s.blk.lampB ∨ warm then .low
      else .off
    (∃ t, exec .rampStep s = .next t ∧
      let fan := speed (t.blk.lampA.output + t.blk.lampB.output)
      t.blk.lcu = { c with
        fan := fan
        fanWatch := if fan = .off then none else if c.fan = .off then some 2000 else c.fanWatch
        tachSeen := if fan = .off then false else c.tachSeen }) ∧
    let dark : Prop := s.blk.lampA.state = .off ∧ s.blk.lampB.state = .off ∧ s.blk.pres.state = .empty
    (c.fan ≠ .off → exec .fanTachPulse s =
      .next (s.setLcu fun c => { c with fanWatch := some 2000, tachSeen := true })) ∧
    (c.fan = .off → exec .fanTachPulse s = .next s) ∧
    (c.fanWatch.isSome = true → c.fanFault = true → exec .fanTachTimeout s =
      .next (s.setLcu fun c => { c with fanWatch := none, tachSeen := false, clearing := 0 })) ∧
    (c.fanWatch.isSome = true → c.fanFault = false → c.readingZone ≠ .critical → dark →
      ∃ t, exec .fanTachTimeout s = .next t ∧ t.blk.lcu.fan = .full ∧
        State.Regranted (((s.raised .fanFault []).raised .zoneChange
          [Zone.code c.readingZone, 3, optByte c.highest, 1]).setLcu fun c =>
            { c with clearing := 0, fanFault := true }) t) ∧
    (c.fanFault = true → c.tachSeen = true → c.readingZone ≠ .critical → s.blk.pres.frozen = false →
      s.blk.lampA.relightOwed = false → s.blk.lampB.relightOwed = false →
      ∃ t, exec .fanFaultClear s = .next t ∧
        State.Regranted ((s.raised .zoneChange [3, Zone.code c.readingZone, optByte c.highest, 1]).setLcu fun c =>
          { c with fanFault := false, clearing := 0 }) t) ∧
    (c.power ≠ .cooldown → exec .cooldownCountExpiry s = .next s) ∧
    (c.power = .cooldown → (∀ i, (c.sensor i).silent = false ∧ ∀ v ∈ (c.sensor i).reading, v < 50) →
      ∃ t, exec .cooldownCountExpiry s = .next t ∧
        State.Regranted { s.setLcu (fun c => { c with
            sinceExtinguish := max c.sinceExtinguish 60000, power := .standby, standbyWaiting := [] }) with
          port := (s.raised .cooldownDone []).port.answeredAll c.standbyWaiting .ok } t)

/-! ## Tape, sound and cues -/

/-- TAPE_ZERO in every transport state: the count becomes 0 and the wound flag set in NO_TAPE, STOPPED and PAUSED
towards PLAYING with no cue held; refused IN_USE with a cue held, and WRONG_STATE in the motion states and in PAUSED
towards RECORDING. The cue map stays. -/
def Obligations.TapeZero : Prop :=
  ∀ (s : State) (tag : Byte), s.Takes 0x55 →
    let x := s.blk.tape
    ((x.transport = .noTape ∨ x.transport = .stopped ∨ (x.transport = .paused .playing ∧ x.held = none)) →
      exec (.tapeZero tag) s =
        .next ((s.answered 0x55 tag .ok []).setTape fun x => { x with count := 0, wound := true })) ∧
    (x.inMotion = true ∨ (x.transport = .paused .recording ∧ x.held = none) →
      exec (.tapeZero tag) s = .next (s.answered 0x55 tag .wrongState [])) ∧
    (x.transport = .paused .playing → x.held ≠ none →
      exec (.tapeZero tag) s = .next (s.answered 0x55 tag .inUse []))

/-- SET_CUE_OPTIONS, SOUND_LEVEL and SOUND_MUTE write their settings and answer OK at once, or refuse BAD_ARGUMENT and
write nothing. A sound step moves the output by one towards its target, and no further; during the END run-out it
stands, and the steps of that fade take it down instead. The run-out's end stops the tape and gives the output its
target at once. Model's choice (log 5): END_FADE_STEP and END_RUN_OUT_EXPIRY change nothing outside the run-out. -/
def Obligations.TapeSettingsAndSound : Prop :=
  (∀ (s : State) (tag v w : Byte) (on : Bool) (policy : CuePolicy),
     (s.Takes 0x56 →
       (exec (.setCueOptions tag (CuePolicy.code policy) (Bool.code on)) s =
         .next ((s.answered 0x56 tag .ok []).setTape fun x => { x with policy := policy, chase := on })) ∧
       ((1 < v.toNat ∨ 1 < w.toNat) →
         exec (.setCueOptions tag v w) s = .next (s.answered 0x56 tag .badArgument []))) ∧
     (s.Takes 0x5D →
       (v.toNat ≤ 31 → exec (.soundLevel tag v) s =
         .next ((s.answered 0x5D tag .ok []).setTape fun x => { x with setLevel := v.toNat })) ∧
       (31 < v.toNat → exec (.soundLevel tag v) s = .next (s.answered 0x5D tag .badArgument []))) ∧
     (s.Takes 0x5E →
       (exec (.soundMute tag (Bool.code on)) s =
         .next ((s.answered 0x5E tag .ok []).setTape fun x => { x with mute := on })) ∧
       (1 < v.toNat → exec (.soundMute tag v) s = .next (s.answered 0x5E tag .badArgument [])))) ∧
  (∀ s : State, s.Ok →
     let x := s.blk.tape
     (x.runOut = none → x.winding = false →
       let target := if x.mute then 0 else x.setLevel
       exec .soundFadeStep s = .next (s.setTape fun x => { x with output :=
         if x.output < target then x.output + 1 else if target < x.output then x.output - 1 else x.output })) ∧
     (x.runOut ≠ none → exec .soundFadeStep s = .next s) ∧
     (∀ r, x.runOut = some r → 0 < r.falls → exec .endFadeStep s = .next (s.setTape fun x =>
       { x with output := x.output - 1, runOut := some { r with falls := r.falls - 1 } })) ∧
     (x.runOut = none → exec .endFadeStep s = .next s ∧ exec .endRunOutExpiry s = .next s) ∧
     (x.runOut ≠ none → x.transport = .playing → x.held = none → x.pass = none → x.motionWaiting = none →
       x.pausePending = false → x.pauseWaiting = [] → exec .endRunOutExpiry s = .next (s.setTape fun x => { x with
         transport := .stopped, watch := none, runOut := none, output := if x.mute then 0 else x.setLevel })))

/-- TAPE_PLAY, TAPE_STOP, TAPE_PAUSE, TAPE_RESUME and TAPE_WIND on a unit with no cue held, no pass open and no command
waiting: a motion command enters its motion state with the tach watch of 2 s and waits for the first tach pulse; the
others are answered at once. TAPE_PLAY in PROGRAM mode opens a recording pass. Model's choice: WRONG_STATE comes before
IN_USE in TAPE_PLAY and after it in TAPE_RESUME (log 26), TAPE_WIND checks its argument first (log 45), and its
directions are coded FWD 0 and REV 1 (log 6). -/
def Obligations.TapeMotion : Prop :=
  ∀ (s : State) (tag : Byte),
    let x := s.blk.tape
    let still : Prop := x.held = none ∧ x.pass = none ∧ x.motionWaiting = none ∧ x.pausePending = false ∧
      x.pauseWaiting = []
    let moving (code : Nat) (tr : Transport) (s : State) : State :=
      (s.withheld code tag).setTape fun x =>
        { x with transport := tr, watch := some 2000, motionWaiting := some (s.ticket tag) }
    (s.Takes 0x50 →
      ((x.transport = .noTape ∨ x.leader = .tail) →
        exec (.tapePlay tag) s = .next (s.answered 0x50 tag .wrongState [])) ∧
      (x.transport ≠ .noTape → x.leader ≠ .tail → x.held ≠ none →
        exec (.tapePlay tag) s = .next (s.answered 0x50 tag .inUse [])) ∧
      (still → x.transport = .stopped → x.leader ≠ .tail → x.runOut = none →
        (s.blk.pres.mode ≠ .program → (s.blk.pres.mode ≠ .show ∨ x.wound = false) →
          exec (.tapePlay tag) s = .next (moving 0x50 .playing s)) ∧
        (s.blk.pres.mode = .program → exec (.tapePlay tag) s = .next ((moving 0x50 .recording s).setTape fun x =>
          { x with pass := some { wrote := false, next := none } })))) ∧
    (s.Takes 0x51 →
      ((x.transport = .noTape ∨ x.transport = .stopped) →
        exec (.tapeStop tag) s = .next (s.answered 0x51 tag .ok [])) ∧
      (still → (x.transport = .playing ∨ x.transport = .paused .playing) →
        exec (.tapeStop tag) s = .next ((s.answered 0x51 tag .ok []).setTape fun x =>
          { x with transport := .stopped, watch := none, runOut := none }))) ∧
    (s.Takes 0x52 →
      (still → x.transport = .playing →
        exec (.tapePause tag) s = .next ((s.answered 0x52 tag .ok []).setTape fun x =>
          { x with transport := .paused .playing, watch := none, runOut := none })) ∧
      (x.transport = .recording → x.motionWaiting = none → x.writing = none →
        exec (.tapePause tag) s = .next ((s.answered 0x52 tag .ok []).setTape fun x =>
          { x with transport := .paused .recording, watch := none, runOut := none })) ∧
      (x.transport = .recording → x.writing ≠ none →
        exec (.tapePause tag) s = .next ((s.withheld 0x52 tag).setTape fun x =>
          { x with pausePending := true, pauseWaiting := x.pauseWaiting ++ [s.ticket tag] }))) ∧
    (s.Takes 0x53 →
      (x.held ≠ none → exec (.tapeResume tag) s = .next (s.answered 0x53 tag .inUse [])) ∧
      (still → x.leader ≠ .tail → x.transport = .paused .playing → (s.blk.pres.mode ≠ .show ∨ x.wound = false) →
        exec (.tapeResume tag) s = .next (moving 0x53 .playing s)) ∧
      (still → x.transport = .stopped → exec (.tapeResume tag) s = .next (s.answered 0x53 tag .wrongState []))) ∧
    (s.Takes 0x54 →
      (still → x.transport = .stopped → x.leader ≠ .tail →
        exec (.tapeWind tag 0) s = .next ((moving 0x54 .windingFwd s).setTape fun x =>
          { x with wound := true, runOut := none, output := 0 })) ∧
      (still → x.transport = .stopped → x.leader ≠ .head →
        exec (.tapeWind tag 1) s = .next ((moving 0x54 .windingRev s).setTape fun x =>
          { x with wound := true, runOut := none, output := 0 })) ∧
      (∀ dir : Byte, 1 < dir.toNat → exec (.tapeWind tag dir) s = .next (s.answered 0x54 tag .badArgument [])))

/-- The chase: each entry to PLAYING in SHOW mode with the wound flag set takes the flag away. With the chase option on
it flushes the CUE queue, discards a held cue and raises CHASE; where the map has an entry at or below the tape count,
the frame after the last of them is requested and the expected sequence is the one past it, and else it is ANY. With the
option off the expected sequence is ANY and nothing more happens. The entries are a TAPE_PLAY from STOPPED or PAUSED, a
TAPE_RESUME, a CUE_DISCARD_HELD, and the change to SHOW mode while PLAYING. Model's choice: CHASE joins before the OK of
the SET_MODE (log 81). -/
def Obligations.Chase : Prop :=
  ∀ (s : State) (tag : Byte),
    let x := s.blk.tape
    let last := (x.map.filter fun e => decide (e.count ≤ x.count)).getLast?
    let fields : List Byte := word x.count ++ match last with
      | some e => presentWord (some e.count) ++ [byte e.seq, byte e.frameAfter]
      | none => presentWord none ++ [255, 255]
    let chase (s : State) : State :=
      if x.chase then { (s.raised .chase fields).setTape (fun y => { y with
          wound := false, held := none, expected := last.map fun e => (e.seq + 1) % 16 }) with
        arb := { s.arb with cue := match last with
          | some e => [{ source := .cue, kind := .chase, arg := some e.frameAfter, ticket := none }]
          | none => [] } }
      else s.setTape fun y => { y with wound := false, expected := none }
    let entered (code : Nat) : State := chase ((s.withheld code tag).setTape fun y => { y with
      transport := .playing, held := none, watch := some 2000, motionWaiting := some (s.ticket tag) })
    x.wound = true → x.leader ≠ .tail → x.pass = none → x.motionWaiting = none →
    (x.chase = true → last.isSome = true → s.arb.authority.cue.motion = true) →
    (s.blk.pres.mode = .show →
      (s.Takes 0x50 → x.held = none → (x.transport = .stopped ∨ ∃ r, x.transport = .paused r) →
        exec (.tapePlay tag) s = .next (entered 0x50)) ∧
      (s.Takes 0x53 → x.held = none → (∃ r, x.transport = .paused r) →
        exec (.tapeResume tag) s = .next (entered 0x53)) ∧
      (s.Takes 0x58 → x.held ≠ none → x.transport = .paused .playing →
        exec (.cueDiscardHeld tag) s = .next (entered 0x58))) ∧
    (s.Takes 0x34 → (s.blk.pres.mode = .setup ∨ s.blk.pres.mode = .manual) → x.transport = .playing → x.held = none →
      s.port.out.length + s.port.reserved + 2 ≤ 24 →
      exec (.setMode tag 2) s =
        .next (((chase s).answered 0x34 tag .ok []).setPres fun p => { p with mode := .show }))

/-- CUE_MAP_READ answers the length and the entries asked for, or the length alone for n = 0, and changes no record.
CUE_MAP_LOAD appends an entry, and CUE_MAP_CLEAR empties the map; while a recording pass is open both are refused
IN_USE. A bad argument is refused BAD_ARGUMENT, and a load into a map of 256 entries WRONG_STATE. -/
def Obligations.CueMap : Prop :=
  ∀ (s : State) (tag : Byte) (first count : BitVec 16) (n seq kind arg frame : Byte),
    let map := s.blk.tape.map
    (s.Takes 0x5A →
      ((8 < n.toNat ∨ (1 ≤ n.toNat ∧ (first.toNat = 0 ∨ map.length < first.toNat))) →
        exec (.cueMapRead tag first n) s = .next (s.answered 0x5A tag .badArgument [])) ∧
      (n.toNat = 0 → exec (.cueMapRead tag first n) s = .next (s.answered 0x5A tag .ok (word map.length))) ∧
      (1 ≤ n.toNat → n.toNat ≤ 8 → 1 ≤ first.toNat → first.toNat ≤ map.length →
        exec (.cueMapRead tag first n) s =
          let es := (map.drop (first.toNat - 1)).take n.toNat
          .next (s.answered 0x5A tag .ok (word map.length ++ byte es.length :: es.flatMap CueEntry.bytes)))) ∧
    (s.Takes 0x5B →
      let bad : Prop := 15 < seq.toNat ∨ kind.toNat < 1 ∨ 11 < kind.toNat ∨ 200 < frame.toNat ∨
        ∃ e, map.getLast? = some e ∧ count.toNat ≤ e.count
      (s.blk.tape.pass ≠ none →
        exec (.cueMapLoad tag count seq kind arg frame) s = .next (s.answered 0x5B tag .inUse [])) ∧
      (s.blk.tape.pass = none → bad →
        exec (.cueMapLoad tag count seq kind arg frame) s = .next (s.answered 0x5B tag .badArgument [])) ∧
      (s.blk.tape.pass = none → ¬ bad → 256 ≤ map.length →
        exec (.cueMapLoad tag count seq kind arg frame) s = .next (s.answered 0x5B tag .wrongState [])) ∧
      (s.blk.tape.pass = none → ¬ bad → map.length < 256 → ∀ k, cueKindOf kind.toNat = some k →
        exec (.cueMapLoad tag count seq kind arg frame) s =
          .next ((s.answered 0x5B tag .ok (word (map.length + 1))).setTape fun x => { x with
            map := x.map ++ [{ count := count.toNat, seq := seq.toNat, kind := k, arg := arg.toNat
                               frameAfter := frame.toNat }] }))) ∧
    (s.Takes 0x5C →
      (s.blk.tape.pass ≠ none → exec (.cueMapClear tag) s = .next (s.answered 0x5C tag .inUse [])) ∧
      (s.blk.tape.pass = none → exec (.cueMapClear tag) s =
        .next ((s.answered 0x5C tag .ok []).setTape fun x => { x with map := [] })))

/-- CUE_TAKE_HELD and CUE_DISCARD_HELD: refused WRONG_STATE with no cue held or at a TAIL leader. A held ADVANCE is
posted and the tape resumes; a held HOLD leaves the tape PAUSED; a discarded cue only resumes it. The expected sequence
goes past the held cue each time. -/
def Obligations.HeldCueCommands : Prop :=
  ∀ (s : State) (tag : Byte) (h : HeldCue),
    let past (x : Tape) : Tape := { x with held := none, expected := some ((h.seq + 1) % 16) }
    let resumed (t : Ticket) (x : Tape) : Tape :=
      { x with transport := .playing, watch := some 2000, motionWaiting := some t }
    let tk := s.ticket tag
    (s.Takes 0x57 →
      ((s.blk.tape.held = none ∨ s.blk.tape.leader = .tail) →
        exec (.cueTakeHeld tag) s = .next (s.answered 0x57 tag .wrongState [])) ∧
      (s.blk.tape.held = some h → s.blk.tape.leader ≠ .tail → s.blk.tape.transport = .paused .playing →
        s.blk.tape.motionWaiting = none → s.blk.tape.taken ≤ 255 →
        (h.kind = .advance → s.blk.pres.mode = .show → s.arb.authority.cue.motion = true → s.arb.cue.length < 8 →
          exec (.cueTakeHeld tag) s = .next { (s.withheld 0x57 tag).setTape (fun x =>
              { resumed tk (past x) with taken := min 255 (x.taken + 1) }) with
            arb := { s.arb with
              cue := s.arb.cue ++ [{ source := .cue, kind := .advance, arg := none, ticket := none }] } }) ∧
        (h.kind = .hold → s.arb.authority.cue.tape = true →
          exec (.cueTakeHeld tag) s = .next ((s.answered 0x57 tag .ok []).setTape fun x =>
            { past x with taken := min 255 (x.taken + 1) })))) ∧
    (s.Takes 0x58 →
      ((s.blk.tape.held = none ∨ s.blk.tape.leader = .tail) →
        exec (.cueDiscardHeld tag) s = .next (s.answered 0x58 tag .wrongState [])) ∧
      (s.blk.tape.held = some h → s.blk.tape.leader ≠ .tail → s.blk.tape.transport = .paused .playing →
        s.blk.tape.motionWaiting = none → (s.blk.pres.mode ≠ .show ∨ s.blk.tape.wound = false) →
        exec (.cueDiscardHeld tag) s = .next ((s.withheld 0x58 tag).setTape fun x => resumed tk (past x))))

/-- CUE_INSERT: its refusals in order, IN_USE with a holding word or while a request granted from another source than
CUE is in progress, and a cue that begins as the writing word, at the count as it stands, or waits as the holding word.
The first word of a pass first removes the map's entries at or beyond the count, and takes the sequence after the last
one left, or 0; every other one takes the next record sequence. The word's entry goes to the end of the map, unless the
map holds 256 entries or the last one's count is not below: then MAP_FULL is raised, with reason FULL or ORDER, and the
word is written all the same. It has the kind, the argument, the sequence and the check, which is the CRC-8 of
polynomial 07h over the kind, the argument and four 0 bits. WORD_WRITING_END answers the CUE_INSERT with the word's
count and sequence; a pause that was pending then takes place, and else the holding word begins. A TAPE_STOP in a pass
cuts the word that is being written: its entry leaves the map, CUE_CUT is raised, and the CUE_INSERTs of the two words
are answered ABORTED. Model's choice: the order of the refusals (log 45), that a word has been written after four counts
(log 25), FULL where both reasons hold (log 65), and the order of the answers and events of one end (logs 77, 78), with
the OK of the word that ends before the MAP_FULL of the holding word (log 81). -/
def Obligations.Recording : Prop :=
  ∀ (s : State) (tag kind arg : Byte),
    let x := s.blk.tape
    let crc (k a : Nat) : Nat := (List.range 16).foldl (fun reg i =>
      let shifted := 2 * reg % 256
      if reg.testBit 7 != (4096 * k + 16 * a).testBit (15 - i) then shifted ^^^ 7 else shifted) 0
    let begun (s : State) (p : Pass) (c : OwedCue) : State :=
      let count := s.blk.tape.count
      let kept := if p.wrote then s.blk.tape.map else s.blk.tape.map.filter fun e => decide (e.count < count)
      let last := kept.getLast?
      let n := if p.wrote then p.next.getD 0 else match last with | some e => (e.seq + 1) % 16 | none => 0
      let fits : Bool := decide (kept.length < 256) && last.all fun e => decide (e.count < count)
      let t := s.setTape fun y => { y with
        map := if fits then
            kept ++ [{ count := count, seq := n, kind := c.kind, arg := c.arg, frameAfter := c.frameAfter }]
          else kept
        pass := some { wrote := true, next := some ((n + 1) % 16) }
        writing := some
          { cue := c, seq := n, start := count, inMap := fits, countsLeft := 4
            word := BitVec.ofNat 24 (2 ^ 20 * c.kind.num + 2 ^ 12 * c.arg + 2 ^ 8 * n + crc c.kind.num c.arg) } }
      if fits then t else t.raised .mapFull (word count ++ [byte n, if 256 ≤ kept.length then 0 else 1])
    let answered (p : Port) (k : Option Ticket) : Port := match k with
      | some k => p.deliverAnswer k .aborted []
      | none => p
    (s.Takes 0x59 →
      (insertable kind.toNat arg.toNat = none →
        exec (.cueInsert tag kind arg) s = .next (s.answered 0x59 tag .badArgument [])) ∧
      (∀ k a, insertable kind.toNat arg.toNat = some (k, a) →
        let cue : OwedCue := { kind := k, arg := a, frameAfter := s.blk.pres.current, ticket := some (s.ticket tag) }
        (s.blk.pres.mode ≠ .program →
          exec (.cueInsert tag kind arg) s = .next (s.answered 0x59 tag .wrongMode [])) ∧
        (s.blk.pres.mode = .program → x.transport ≠ .recording →
          exec (.cueInsert tag kind arg) s = .next (s.answered 0x59 tag .wrongState [])) ∧
        (s.blk.pres.mode = .program → x.transport = .recording →
          (x.holding ≠ none ∨ ∃ r, s.blk.pres.granted = some r ∧ r.source ≠ .cue) →
          exec (.cueInsert tag kind arg) s = .next (s.answered 0x59 tag .inUse [])) ∧
        (s.blk.pres.mode = .program → x.transport = .recording → x.holding = none →
          (∀ r ∈ s.blk.pres.granted, r.source = .cue) →
          (x.writing ≠ none → exec (.cueInsert tag kind arg) s =
            .next ((s.withheld 0x59 tag).setTape fun x => { x with holding := some cue })) ∧
          (∀ p, x.writing = none → x.pass = some p → (p.wrote = true → p.next ≠ none) →
            exec (.cueInsert tag kind arg) s = .next (begun (s.withheld 0x59 tag) p cue))))) ∧
    (∀ y k, s.Ok → x.transport = .recording → x.writing = some y → y.countsLeft = 0 → y.cue.ticket = some k →
      let ended : State :=
        { s.setTape (fun x => { x with writing := none }) with
          port := s.port.deliverAnswer k .ok (word y.start ++ [byte y.seq, Bool.code (!y.inMap)]) }
      (x.pausePending = false → x.holding = none → exec .wordWritingEnd s = .next ended) ∧
      (∀ c p, x.pausePending = false → x.holding = some c → x.pass = some p → (p.wrote = true → p.next ≠ none) →
        exec .wordWritingEnd s = .next (begun (ended.setTape fun x => { x with holding := none }) p c)) ∧
      (x.pausePending = true → x.motionWaiting = none → exec .wordWritingEnd s = .next
        { ended.setTape (fun x => { x with
            transport := .paused .recording, watch := none, runOut := none, pausePending := false
            pauseWaiting := [] }) with
          port := ended.port.answeredAll x.pauseWaiting .ok })) ∧
    (∀ y, s.Takes 0x51 → x.transport = .recording → x.pass ≠ none → x.writing = some y → x.pauseWaiting = [] →
      x.motionWaiting = none → x.held = none →
      let cut := ((s.withheld 0x51 tag).raised .cueCut
        (word y.start ++ [byte y.seq, if x.holding.isSome then 2 else 1])).port
      exec (.tapeStop tag) s = .next
        { s.setTape (fun x => { x with
            transport := .stopped, watch := none, runOut := none, pausePending := false, pass := none
            expected := none, writing := none, holding := none
            map := if y.inMap then x.map.dropLast else x.map }) with
          port := (answered (answered cut y.cue.ticket) (x.holding.bind fun c => c.ticket)).deliverAnswer
            (s.ticket tag) .ok [] })

/-- The tape's own events on a unit with no cue held, no pass open and no pause pending. A tach pulse counts by the
direction of motion, restarts the watch and answers the command that waits for it; the watch's end and a leader stop the
tape, with TRANSPORT_FAULT or TAPE_END and the waiting command answered; a removal leaves NO_TAPE, and an insertion
STOPPED with the cue counters at 0. Model's choice: out of motion TACH_WATCH_EXPIRY changes nothing, and the leader's
rows nothing but the pin and the leader it ends (logs 5, 36), and the waiting command is answered before TRANSPORT_FAULT
and TAPE_END (log 77). -/
def Obligations.TapeEvents : Prop :=
  ∀ s : State, s.Ok →
    let x := s.blk.tape
    let still : Prop := x.held = none ∧ x.pass = none ∧ x.pausePending = false ∧ x.pauseWaiting = []
    let answered (st : Status) (s : State) : State := { s with port := s.port.answeredAll x.motionWaiting.toList st }
    (x.inMotion = false → exec .tapeTachPulse s = .next s ∧ exec .tachWatchExpiry s = .next s ∧
      exec .leaderSensorMakes s = .next (s.setTape fun x => { x with leaderMade := true })) ∧
    (x.transport = .playing ∨ x.transport = .windingFwd → exec .tapeTachPulse s =
      .next ((answered .ok s).setTape fun x =>
        { x with count := min 65535 (x.count + 1), watch := some 2000, motionWaiting := none })) ∧
    (x.transport = .windingRev → exec .tapeTachPulse s = .next ((answered .ok s).setTape fun x =>
      { x with count := x.count - 1, watch := some 2000, motionWaiting := none })) ∧
    (still → x.transport = .playing →
      exec .tachWatchExpiry s = .next (((answered .fault s).raised .transportFault (2 :: word x.count)).setTape fun x =>
        { x with transport := .stopped, watch := none, motionWaiting := none, runOut := none }) ∧
      exec .leaderSensorMakes s = .next (((answered .aborted s).raised .tapeEnd (2 :: word x.count)).setTape fun x =>
        { x with
          transport := .stopped, watch := none, motionWaiting := none, runOut := none, leader := .tail
          leaderMade := true })) ∧
    (exec .leaderSensorClears s = .next (s.setTape fun x => { x with leader := .none, leaderMade := false })) ∧
    (still → x.present = true → x.transport = .playing → exec .tapeRemoval s =
      .next ((answered .aborted s).setTape fun x =>
        { x with
          transport := .noTape, watch := none, motionWaiting := none, runOut := none, present := false
          wound := true })) ∧
    (x.transport = .noTape → exec .tapeInsertion s = .next (s.setTape fun x =>
      { x with
        present := true, transport := .stopped, wound := true, expected := none, taken := 0, duplicates := 0
        missed := 0, bad := 0, undelivered := 0, mark := none, leader := if x.leaderMade then .head else .none }))

/-- A cue word read outside PLAYING does nothing. In PLAYING a word whose check is wrong is counted bad and raises
CUE_BAD, a repeated word is counted as a duplicate, and in SHOW mode an ADVANCE in step is counted and posted for source
CUE. A gap under the policy STOP holds the cue and pauses the tape, with CUE_GAP. -/
def Obligations.CueWord : Prop :=
  ∀ (s : State) (x : BitVec 24), s.Ok →
    let t := s.blk.tape
    let good : Prop := wordCheck x = cueCheck (wordKind x) (wordArg x)
    let seq := wordSeq x
    (t.transport ≠ .playing → exec (.cueWordDelivered x) s = .next s) ∧
    (t.transport = .playing → t.runOut = none →
      (¬ good → t.bad ≤ 255 → exec (.cueWordDelivered x) s =
        .next ((s.raised .cueBad (word t.count)).setTape fun t => { t with bad := min 255 (t.bad + 1) })) ∧
      (good → t.expected = some ((seq + 1) % 16) → t.duplicates ≤ 255 → exec (.cueWordDelivered x) s =
        .next (s.setTape fun t => { t with duplicates := min 255 (t.duplicates + 1) })) ∧
      (good → wordKind x = 1 → (t.expected = none ∨ t.expected = some seq) → s.blk.pres.mode = .show → t.taken ≤ 255 →
        s.arb.authority.cue.motion = true → s.arb.cue.length < 8 →
        exec (.cueWordDelivered x) s = .next { s.setTape (fun t =>
            { t with expected := some ((seq + 1) % 16), taken := min 255 (t.taken + 1) }) with
          arb := { s.arb with
            cue := s.arb.cue ++ [{ source := .cue, kind := .advance, arg := none, ticket := none }] } }) ∧
      (∀ e k, good → cueKindOf (wordKind x) = some k → t.expected = some e → e < 16 → seq ≠ e →
        seq ≠ (e + 15) % 16 → s.blk.pres.mode = .show → t.policy = .stop → t.motionWaiting = none →
        let gap := (seq + 16 - e) % 16
        exec (.cueWordDelivered x) s =
          .next ((s.raised .cueGap ([byte gap, byte seq] ++ word t.count)).setTape fun t => { t with
            missed := min 255 (t.missed + gap), transport := .paused .playing, watch := none
            held := some { kind := k, arg := wordArg x, seq := seq, count := t.count } })))


/-! ## Hand remote -/

/-- SET_REMOTE writes the three settings, drops the held IR key when IR is disabled or the channel changes and the held
lines when the wired lines are disabled, and answers the settings and the digit buffer; a value out of range is refused
BAD_ARGUMENT. The releases, the repeat code and the entry timer act on the receiver's own records alone. Model's choice:
they change nothing when no key is held or no timer runs (log 5), and the digit buffer is answered as three bytes, the
oldest digit first, with FFh for each that is missing (log 97). -/
def Obligations.RemoteSettings : Prop :=
  ∀ (s : State) (tag ir wired channel : Byte) (on lines : Bool) (ch : BitVec 4),
    let r := s.blk.remote
    (s.Takes 0x68 → r.digits.length ≤ 3 → channel.toNat ≤ 15 →
      let kept : Bool := on && channel.toNat == r.channel
      exec (.setRemote tag (Bool.code on) (Bool.code lines) channel) s =
        .next ((s.answered 0x68 tag .ok ([Bool.code on, Bool.code lines, channel] ++
          (r.digits.map (fun (d : Fin 10) => byte d.val) ++ List.replicate 3 255).take 3)).modRemote fun r =>
            { r with
              irEnable := on, wiredEnable := lines, channel := channel.toNat
              ir := if kept then r.ir else none, irRelease := if kept then r.irRelease else none
              fwd := if lines then r.fwd else none, rev := if lines then r.rev else none
              darkHeld := if lines then r.darkHeld else false })) ∧
    (s.Takes 0x68 → (1 < ir.toNat ∨ 1 < wired.toNat ∨ 15 < channel.toNat) →
      exec (.setRemote tag ir wired channel) s = .next (s.answered 0x68 tag .badArgument [])) ∧
    (r.wiredEnable = true →
      exec (.wiredLineRelease .fwd) s = .next (s.modRemote fun r => { r with fwdActive := false, fwd := none }) ∧
      exec (.wiredLineRelease .rev) s = .next (s.modRemote fun r => { r with revActive := false, rev := none }) ∧
      exec (.wiredLineRelease .dark) s = .next (s.modRemote fun r =>
        { r with darkActive := false, darkHeld := false })) ∧
    (exec (.irRepeatCode ch) s = .next (s.modRemote fun r =>
      if r.irEnable ∧ ch.toNat = r.channel ∧ r.ir.isSome then { r with irRelease := some 200 } else r)) ∧
    (exec .irReleaseTimeout s = .next (s.modRemote fun r =>
      if r.irRelease.isSome then { r with ir := none, irRelease := none } else r)) ∧
    (exec .entryTimerExpiry s = .next (s.modRemote fun r =>
      if r.entryTimer.isSome then { r with digits := [], entryTimer := none } else r))

/-- A press of a key that is not WAKE: ADVANCE on the wired line and by an IR code of the receiver's channel, and each
later repeat, posts a request of source REMOTE that enters the tail of its queue; without the authority the press is
refused with REMOTE_REFUSED; a digit joins the buffer and restarts the entry timer. In STANDBY a press with the
authority only wakes the part, and the held key then repeats nothing. An IR code of another channel does nothing. -/
def Obligations.RemoteKeys : Prop :=
  ∀ (s : State) (ch : BitVec 4), s.Ok →
    let r := s.blk.remote
    let held (repeats : Bool) : HeldKey := { key := .advance, repeats := repeats, left := 800, dropReported := false }
    let posted (s : State) : State := { s with arb := { s.arb with
      remote := s.arb.remote ++ [{ source := .remote, kind := .advance, arg := none, ticket := none }] } }
    let heard : Prop := r.irEnable = true ∧ ch.toNat = r.channel
    (s.blk.lcu.power ≠ .standby → r.digits = [] → s.arb.authority.remote.motion = true → s.arb.remote.length < 2 →
      (r.wiredEnable = true → r.fwdActive = false → exec (.wiredLinePress .fwd) s =
        .next ((posted s).modRemote fun r => { r with fwdActive := true, fwd := some (held true) })) ∧
      (heard → exec (.irFirstCode ch .advance) s =
        .next ((posted s).modRemote fun r => { r with ir := some (held true), irRelease := some 200 })) ∧
      (∀ k, r.fwd = some k → k.key = .advance → k.repeats = true → exec (.keyRepeat .fwd) s =
        .next ((posted s).modRemote fun r => { r with fwd := some { k with left := 400 } }))) ∧
    (s.blk.lcu.power ≠ .standby → r.digits = [] → s.arb.authority.remote.motion = false → r.wiredEnable = true →
      r.fwdActive = false → exec (.wiredLinePress .fwd) s =
        .next ((s.raised .remoteRefused [0, 3]).modRemote fun r =>
          { r with fwdActive := true, fwd := some (held true) })) ∧
    (∀ d : Fin 10, s.blk.lcu.power ≠ .standby → heard → r.digits.length < 3 → exec (.irFirstCode ch (.digit d)) s =
      .next (s.modRemote fun r => { r with
        digits := r.digits ++ [d], entryTimer := some 4000, irRelease := some 200
        ir := some { key := .digit d, repeats := false, left := 800, dropReported := false } })) ∧
    (s.blk.lcu.power = .standby → s.arb.authority.remote.level = true → s.blk.lcu.standbyWaiting = [] → heard →
      ∃ t, exec (.irFirstCode ch .advance) s = .next t ∧
        State.Regranted ((s.modRemote fun r =>
          { r with ir := some (held false), irRelease := some 200 }).setLcu fun c => { c with power := .active }) t) ∧
    (ch.toNat ≠ r.channel → exec (.irFirstCode ch .advance) s = .next s)

/-! ## Pair link -/

/-- The bytes of a write frame. A START with an address the port answers to begins an empty assembly with an ACK,
another address is NACKed; the code byte is ACKed, or NACKed as an unknown code, as a frame refused while the overrun
flag stands, or as the request that finds the LINK queue full, which sets the flag and raises LINK_OVERRUN; an argument
byte is ACKed while the code still takes one. A START drops the frame that it cuts short. A STOP drops a frame with no
code byte and one that the port refused, and counts a format error for a malformed frame, for one that lacks arguments,
and for a DARK above 2 or a SELECT_READ above 1; it leaves every other complete frame to its own command. Model's choice
(logs 5, 27): that a complete frame has a row of its own, and LINK_STOP changes nothing for it. -/
def Obligations.LinkBytes : Prop :=
  ∀ (s : State) (address : BitVec 7) (v : Byte) (a : Assembly), s.Ok →
    let l := s.blk.link
    let addressed : Bool := l.station != 0 && (address.toNat == 0 || (address.toNat == l.station && l.station ≤ 7) ||
      (address.toNat == 8 && l.group8) || (address.toNat == 9 && l.group9) || (address.toNat == 10 && l.group10) ||
      (address.toNat == 11 && l.group11))
    let sawByte (state : FrameState) (s : State) : State := s.modLink fun l =>
      { l with ack := some (state == .accepted), assembly := some { a with bytes := a.bytes ++ [v], state := state } }
    let gone : State := s.modLink fun l => { l with assembly := none }
    let wrong : State := gone.modLink fun l => { l with formatErrors := min 255 (l.formatErrors + 1) }
    let arguments (code : Byte) : Nat := if code = 6 then 3 else if code = 3 ∨ code = 4 ∨ code = 5 ∨ code = 7 then 1 else 0
    (l.station ≤ 7 → exec (.linkAddressByte address) s = .next (s.modLink fun l => { l with
      readHold := none, reply := [], ack := some addressed
      assembly := if addressed then some { address := address.toNat, bytes := [], state := .accepted } else none })) ∧
    (l.assembly = some a → a.bytes = [] →
      ((v = 8 ∨ (1 ≤ v.toNat ∧ v.toNat ≤ 7 ∧ l.overrun = false ∧ (5 ≤ v.toNat ∨ s.arb.link.length < 4))) →
        exec (.linkCodeByte v) s = .next (sawByte .accepted s)) ∧
      ((v = 0 ∨ 8 < v.toNat) → exec (.linkCodeByte v) s = .next (sawByte .malformed s)) ∧
      (1 ≤ v.toNat → v.toNat ≤ 7 → l.overrun = true → exec (.linkCodeByte v) s = .next (sawByte .refused s)) ∧
      (1 ≤ v.toNat → v.toNat ≤ 4 → l.overrun = false → 4 ≤ s.arb.link.length → exec (.linkCodeByte v) s =
        .next ((sawByte .refused (s.raised .linkOverrun ([byte l.station, v] ++ word s.blk.tape.count))).modLink
          fun l => { l with overrun := true }))) ∧
    (∀ c args, l.assembly = some a → a.bytes = c :: args → a.state = .accepted →
      (args.length < arguments c → exec (.linkArgumentByte v) s = .next (sawByte .accepted s)) ∧
      (args.length = arguments c → exec (.linkArgumentByte v) s = .next (s.modLink fun l =>
        { l with ack := some false, assembly := some { a with state := .malformed } }))) ∧
    (l.assembly = some a → exec (.incompleteFrameDiscard true) s = .next gone) ∧
    (l.assembly = some a → l.formatErrors ≤ 255 →
      let stop := exec (.incompleteFrameDiscard false) s
      (a.state = .refused → stop = .next gone) ∧
      (a.state = .malformed → stop = .next wrong) ∧
      (a.state = .accepted → a.bytes = [] → stop = .next gone) ∧
      (∀ c args, a.state = .accepted → a.bytes = c :: args →
        (args.length < arguments c → stop = .next wrong) ∧
        (∀ w, args = [w] → (c = 4 ∧ 2 < w.toNat) ∨ (c = 5 ∧ 1 < w.toNat) → stop = .next wrong) ∧
        (args.length = arguments c → (∀ w, args = [w] → (c = 4 → w.toNat ≤ 2) ∧ (c = 5 → w.toNat ≤ 1)) →
          stop = .next s)))

/-- The STOP of a request frame: LINK_ADVANCE, LINK_REVERSE, LINK_GOTO and LINK_DARK enter the tail of the LINK queue,
one more request is outstanding and the frame is gone; without the authority the request is refused, with its result
kept and LINK_REFUSED raised. Model's choice (logs 5, 27): a STOP that finds no complete frame, one of another request,
or a DARK argument above 2, is not this command and changes nothing. -/
def Obligations.LinkRequests : Prop :=
  ∀ (s : State) (v : Byte), s.Ok →
    let frame := s.blk.link.completeFrame
    let queued (kind : Kind) (arg : Option Nat) : State :=
      { s.modLink (fun l => { l with assembly := none, outstanding := l.outstanding + 1 }) with
        arb := { s.arb with link := s.arb.link ++ [{ source := .link, kind := kind, arg := arg, ticket := none }] } }
    let refused (kind : Kind) (code : Byte) (arg : List Byte) : State :=
      (s.raised .linkRefused ([byte s.blk.link.station, code] ++ arg ++ [3])).modLink fun l =>
        { l with assembly := none, requestResult := some { kind := kind, status := .noAuthority } }
    (s.arb.authority.link.motion = true → s.arb.link.length < 4 →
      (frame = some [1] → exec .linkAdvance s = .next (queued .advance none)) ∧
      (frame = some [2] → exec .linkReverse s = .next (queued .reverse none)) ∧
      (frame = some [3, v] → exec .linkGoto s = .next (queued .goto (some v.toNat)))) ∧
    (s.arb.authority.link.level = true → s.arb.link.length < 4 → v.toNat ≤ 2 → frame = some [4, v] →
      exec .linkDark s = .next (queued .dark (some v.toNat))) ∧
    (s.arb.authority.link.motion = false →
      (frame = some [1] → exec .linkAdvance s = .next (refused .advance 0 [0, 0])) ∧
      (frame = some [2] → exec .linkReverse s = .next (refused .reverse 1 [0, 0])) ∧
      (frame = some [3, v] → exec .linkGoto s = .next (refused .goto 2 [1, v]))) ∧
    (s.arb.authority.link.level = false → v.toNat ≤ 2 → frame = some [4, v] →
      exec .linkDark s = .next (refused .dark 3 [1, v])) ∧
    ((∀ args, frame ≠ some (1 :: args)) → exec .linkAdvance s = .next s) ∧
    ((∀ args, frame ≠ some (2 :: args)) → exec .linkReverse s = .next s) ∧
    ((∀ args, frame ≠ some (3 :: args)) → exec .linkGoto s = .next s) ∧
    (((∀ args, frame ≠ some (4 :: args)) ∨ (2 < v.toNat ∧ frame = some [4, v])) → exec .linkDark s = .next s)

/-- SELECT_READ, CLEAR_OVERRUN, CURSOR_SET and CURSOR_WRITE at their STOP. A cursor is set when its table, index and
field exist, and the result says so either way. A write without the EDIT authority is recorded as NO_AUTHORITY, and one
to the show position as BAD_ARGUMENT. One to a frame is BAD_ARGUMENT above the count or out of the field's range,
RANGE_LOCKED for a protected frame, IN_USE for the target of the transition, and else writes the field. One to a slot is
DECK_UNAVAILABLE with no tray, BAD_ARGUMENT for slot 0, one beyond the tray, another field than the fault count or
another value than 0 and 7, and IN_USE for a 0 on the slot that a ladder works on; a 7 writes fault count 7, with
SLOT_BAD when the count was 3 or less, and a 0 writes fault count 0 and presence UNKNOWN. The cursor steps after every
write. With the step bit off it stays; else the index of a frame goes from 200 to 1, that of a slot from the last of the
deck's tray to 0 (from 99 with no tray), and each other one up by 1, while the show position has one index. Model's
choice (log 98): the result of a set keeps the field byte whole, with the step bit, and that of a write the field's
place alone. -/
def Obligations.LinkCursor : Prop :=
  ∀ (s : State) (table index field v : Byte), s.Ok → s.blk.link.readHold = none →
    let frame := s.blk.link.completeFrame
    let done (s : State) (f : Link → Link) : State := s.modLink fun l => { f l with assembly := none }
    let c := s.blk.link.cursor
    let wrap (x : Deck) : Nat :=
      if (match x.map with | some m => m.size | none => 100) ≤ c.index + 1 then 0 else c.index + 1
    let stepped : Cursor := if c.step = false then c else match c.table with
      | .frame => { c with index := if 200 ≤ c.index then 1 else c.index + 1 }
      | .slotA => { c with index := wrap s.blk.deckA }
      | .slotB => { c with index := wrap s.blk.deckB }
      | .position => c
    (frame = some [5, v] → v.toNat ≤ 1 → exec .selectRead s =
      .next (done s fun l => { l with readSelect := if v.toNat = 0 then .status else .cursor })) ∧
    (frame = some [8] → exec .clearOverrun s = .next (done s fun l => { l with overrun := false })) ∧
    (frame = some [6, table, index, field] →
      let result (st : Status) : CursorResult :=
        { op := .set, table := table.toNat, index := index.toNat, field := field.toNat, status := st }
      let place := field.toNat % 128
      let set (t : CursorTable) : State := done s fun l =>
        { l with
          cursor := { table := t, index := index.toNat, field := place, step := decide (128 ≤ field.toNat) }
          cursorResult := some (result .ok) }
      (table = 0 → 1 ≤ index.toNat → index.toNat ≤ 200 → place ≤ 6 → exec .cursorSet s = .next (set .frame)) ∧
      (table = 1 → index.toNat ≤ 99 → place ≤ 3 → exec .cursorSet s = .next (set .slotA)) ∧
      (table = 2 → index.toNat ≤ 99 → place ≤ 3 → exec .cursorSet s = .next (set .slotB)) ∧
      (table = 3 → index = 0 → place ≤ 12 → exec .cursorSet s = .next (set .position)) ∧
      ((3 < table.toNat ∨ (table = 0 ∧ (index = 0 ∨ 200 < index.toNat ∨ 6 < place)) ∨
          ((table = 1 ∨ table = 2) ∧ (99 < index.toNat ∨ 3 < place)) ∨ (table = 3 ∧ (index ≠ 0 ∨ 12 < place))) →
        exec .cursorSet s = .next (done s fun l => { l with cursorResult := some (result .badArgument) }))) ∧
    (frame = some [7, v] →
      let written (st : Status) (s' : State) : State := done s' fun l => { l with
        cursor := stepped
        cursorResult := some
          { op := .write, index := c.index, field := c.field, status := st
            table := match c.table with | .frame => 0 | .slotA => 1 | .slotB => 2 | .position => 3 } }
      (s.arb.authority.link.edit = false → exec .cursorWrite s = .next (written .noAuthority s)) ∧
      (s.arb.authority.link.edit = true → c.table = .position →
        exec .cursorWrite s = .next (written .badArgument s)) ∧
      (s.arb.authority.link.edit = true → c.table = .frame →
        let k := s.arb.lock
        let locked : Bool := k.lo != 0 && (k.invert != decide (k.lo ≤ c.index ∧ c.index ≤ k.hi))
        let moving : Bool := s.blk.pres.transition.any fun x => x.target == c.index
        (s.blk.pres.frames.length < c.index → exec .cursorWrite s = .next (written .badArgument s)) ∧
        (∀ f, s.blk.pres.frames[c.index - 1]? = some f →
          (f.write c.field v.toNat = none → exec .cursorWrite s = .next (written .badArgument s)) ∧
          (∀ g, f.write c.field v.toNat = some g →
            (locked = true → exec .cursorWrite s = .next (written .rangeLocked s)) ∧
            (locked = false → moving = true → exec .cursorWrite s = .next (written .inUse s)) ∧
            (locked = false → moving = false → c.index ≠ s.blk.pres.current → s.blk.pres.preload = none →
              s.blk.pres.loopOn = false → s.blk.pres.commitDeferred = false → exec .cursorWrite s =
                .next (written .ok (s.setPres fun p => { p with frames := p.frames.set (c.index - 1) g })))))) ∧
      (∀ d, s.arb.authority.link.edit = true → c.table = (match d with | .a => .slotA | .b => .slotB) →
        let x := s.blk.deck d
        let ladder : Bool := match x.state with
          | .busy op => match op.suspended with
            | some y => y.kind == .change && y.target == c.index && decide (1 ≤ y.stage)
            | none => op.kind == .change && op.target == c.index && decide (1 ≤ op.stage)
          | _ => false
        (x.map = none → exec .cursorWrite s = .next (written .deckUnavailable s)) ∧
        (∀ m, x.map = some m →
          let put (r : SlotRecord) (s : State) : State :=
            s.setDeck d fun x => { x with map := some { m with slots := m.slots.set c.index r } }
          ((c.index = 0 ∨ m.size ≤ c.index ∨ c.field ≠ 1 ∨ (v ≠ 0 ∧ v ≠ 7)) →
            exec .cursorWrite s = .next (written .badArgument s)) ∧
          (∀ r, 1 ≤ c.index → c.index < m.size → m.slots[c.index]? = some r → c.field = 1 →
            (v = 0 → ladder = true → exec .cursorWrite s = .next (written .inUse s)) ∧
            (v = 0 → ladder = false → exec .cursorWrite s =
              .next (written .ok (put { r with faults := 0, presence := .unknown } s))) ∧
            (v = 7 → 4 ≤ r.faults → exec .cursorWrite s = .next (written .ok (put { r with faults := 7 } s))) ∧
            (v = 7 → r.faults ≤ 3 → exec .cursorWrite s = .next (written .ok (put { r with faults := 7 }
              (s.raised .slotBad [DeckId.code d, byte c.index]))))))))

/-- Reads. A read of the port's own address is ACKed with the STATUS reply of six bytes, or with the CURSOR reply, after
which the cursor steps: the table, the index and the field with the step bit, then 0 and the field's value, 1 for a
record that does not exist, or 2 for a field that is absent. A cursor read of a frame that a deferred commit will write
is held, until the hold's end answers NOT_READY or the desk abandons it; another address is NACKed. SET_LINK writes the
station and the groups, drops the frame under assembly and abandons a held read, or is refused BAD_ARGUMENT. Model's
choice (log 5): READ_HOLD_TIMEOUT and READ_ABANDONED change nothing with no read held. -/
def Obligations.LinkReads : Prop :=
  ∀ (s : State) (address : BitVec 7) (tag station groups : Byte),
    let l := s.blk.link
    let p := s.blk.pres
    let c := l.cursor
    let own : Prop := l.station ≠ 0 ∧ address.toNat = l.station
    let begun (l : Link) (ack : Bool) : Link :=
      { l with assembly := none, readHold := none, reply := [], ack := some ack }
    let state : Nat :=
      if p.frozen then 5 else match p.transition with
        | none => if p.current = 0 then 0 else 1
        | some t => match t.stand with | .pending => 2 | .crossing _ => 3 | _ => 4
    let screen : Nat := match p.screen with | some sc => (DeckId.code sc.deck).toNat | none => 2
    let status : List Byte :=
      [byte p.current, byte (32 * state + 8 * screen + if p.blackout then 1 else 0),
        byte (16 * (Service.code p.service).toNat + (Mode.code p.mode).toNat),
        match l.requestResult with | some r => Status.code r.status | none => 255,
        match l.cursorResult with | some r => Status.code r.status | none => 255,
        byte ((if l.overrun then 128 else 0) + (if l.readSelect = .cursor then 64 else 0) + l.outstanding)]
    let found (v : Option Byte) : List Byte := match v with | some v => [0, v] | none => [2, 0]
    let slot (x : Deck) : List Byte := match x.map with
      | none => [1, 0]
      | some m => if m.size ≤ c.index then [1, 0] else match m.slots[c.index]? with
        | none => [1, 0]
        | some r => found (([some (Presence.code r.presence), some (byte r.faults),
            some (if r.faults = 0 then 0 else if r.faults ≤ 3 then 1 else 2), r.pass.map byte][c.field]?).join)
    let frame : List Byte := match p.frames[c.index - 1]? with
      | none => [1, 0]
      | some f => found ([DeckId.code f.deck, byte f.slot, match f.cls with | .num n => byte n | .default => 8,
          byte f.level, byte f.hold, Bool.code f.skip, Bool.code f.tapeHold][c.field]?)
    let position : List Byte := found (([some (byte p.current), some (byte state), some (byte screen),
      p.screen.map fun sc => byte sc.slot, some (Service.code p.service), some (Bool.code p.blackout),
      some (byte p.master), some (byte p.defaultClass), some (Mode.code p.mode), some (Pairing.code p.pairing),
      some (byte p.frames.length), p.preload.map fun r => byte r.frame,
      p.preload.map fun r => PreloadState.code r.state][c.field]?).join)
    let cursor : List Byte :=
      [match c.table with | .frame => 0 | .slotA => 1 | .slotB => 2 | .position => 3, byte c.index,
        byte (c.field + if c.step then 128 else 0)] ++
      match c.table with | .frame => frame | .slotA => slot s.blk.deckA | .slotB => slot s.blk.deckB | .position => position
    let wrap (x : Deck) : Nat :=
      if (match x.map with | some m => m.size | none => 100) ≤ c.index + 1 then 0 else c.index + 1
    let stepped : Cursor := if c.step = false then c else match c.table with
      | .frame => { c with index := if 200 ≤ c.index then 1 else c.index + 1 }
      | .slotA => { c with index := wrap s.blk.deckA }
      | .slotB => { c with index := wrap s.blk.deckB }
      | .position => c
    (¬ own → exec (.linkRead address) s = .next (s.modLink fun l => begun l false)) ∧
    (own → l.readSelect = .status → exec (.linkRead address) s =
      .next (s.modLink fun l => { begun l true with reply := status })) ∧
    (s.Ok → own → l.readSelect = .cursor → p.commitDeferred = false → exec (.linkRead address) s =
      .next (s.modLink fun l => { begun l true with reply := cursor, cursor := stepped })) ∧
    (∀ f run t k, own → l.readSelect = .cursor → l.cursor.table = .frame → s.blk.pres.edit = .deferred f run t k →
      t ≤ l.cursor.index → l.cursor.index < t + run.length → exec (.linkRead address) s =
        .next (s.modLink fun l => { begun l true with readHold := some 0 })) ∧
    (l.readHold.isSome = true →
      exec .readHoldTimeout s = .next (s.modLink fun l => { l with readHold := none, reply := [254] }) ∧
      exec .readAbandoned s = .next (s.modLink fun l => { l with readHold := none, reply := [] })) ∧
    (l.readHold = none → exec .readHoldTimeout s = .next s ∧ exec .readAbandoned s = .next s) ∧
    (s.Takes 0x6A → station.toNat ≤ 7 → groups.toNat ≤ 15 →
      exec (.setLink tag station groups) s =
        .next ((s.answered 0x6A tag .ok [station, groups]).modLink fun l => { l with
          station := station.toNat, group8 := groups.getLsbD 0, group9 := groups.getLsbD 1
          group10 := groups.getLsbD 2, group11 := groups.getLsbD 3, assembly := none, readHold := none
          reply := if l.readHold.isSome then [] else l.reply })) ∧
    (s.Takes 0x6A → (7 < station.toNat ∨ 15 < groups.toNat) →
      exec (.setLink tag station groups) s = .next (s.answered 0x6A tag .badArgument []))
end

