-- ==== Sys2Proof/Laws/State.lean ====
section
/-! SUPPORT. What reading a field of a state, of the blocks or of a step's working copy gives after each update of it. -/

namespace Sys2Proof.Machine

/-! ## The blocks: one deck or lamp written -/

@[simp] theorem Blocks.deck_setDeck_same (b : Blocks) (d : DeckId) (x : Deck) : (b.setDeck d x).deck d = x := by
  cases d <;> rfl

@[simp] theorem Blocks.deck_setDeck_other (b : Blocks) (d : DeckId) (x : Deck) :
    (b.setDeck d x).deck d.other = b.deck d.other := by cases d <;> rfl

@[simp] theorem Blocks.lamp_setDeck (b : Blocks) (d e : DeckId) (x : Deck) : (b.setDeck d x).lamp e = b.lamp e := by
  cases d <;> cases e <;> rfl

@[simp] theorem Blocks.lamp_setLamp_same (b : Blocks) (d : DeckId) (x : Lamp) : (b.setLamp d x).lamp d = x := by
  cases d <;> rfl

@[simp] theorem Blocks.lamp_setLamp_other (b : Blocks) (d : DeckId) (x : Lamp) :
    (b.setLamp d x).lamp d.other = b.lamp d.other := by cases d <;> rfl

@[simp] theorem Blocks.deck_setLamp (b : Blocks) (d e : DeckId) (x : Lamp) : (b.setLamp d x).deck e = b.deck e := by
  cases d <;> cases e <;> rfl

@[simp] theorem Blocks.setDeck_lcu (b : Blocks) (d : DeckId) (x : Deck) : (b.setDeck d x).lcu = b.lcu := by
  cases d <;> rfl

@[simp] theorem Blocks.setDeck_pres (b : Blocks) (d : DeckId) (x : Deck) : (b.setDeck d x).pres = b.pres := by
  cases d <;> rfl

@[simp] theorem Blocks.setDeck_tape (b : Blocks) (d : DeckId) (x : Deck) : (b.setDeck d x).tape = b.tape := by
  cases d <;> rfl

@[simp] theorem Blocks.setDeck_remote (b : Blocks) (d : DeckId) (x : Deck) : (b.setDeck d x).remote = b.remote := by
  cases d <;> rfl

@[simp] theorem Blocks.setDeck_link (b : Blocks) (d : DeckId) (x : Deck) : (b.setDeck d x).link = b.link := by
  cases d <;> rfl

@[simp] theorem Blocks.setLamp_lcu (b : Blocks) (d : DeckId) (x : Lamp) : (b.setLamp d x).lcu = b.lcu := by
  cases d <;> rfl

@[simp] theorem Blocks.setLamp_pres (b : Blocks) (d : DeckId) (x : Lamp) : (b.setLamp d x).pres = b.pres := by
  cases d <;> rfl

@[simp] theorem Blocks.setLamp_tape (b : Blocks) (d : DeckId) (x : Lamp) : (b.setLamp d x).tape = b.tape := by
  cases d <;> rfl

@[simp] theorem Blocks.setLamp_remote (b : Blocks) (d : DeckId) (x : Lamp) : (b.setLamp d x).remote = b.remote := by
  cases d <;> rfl

@[simp] theorem Blocks.setLamp_link (b : Blocks) (d : DeckId) (x : Lamp) : (b.setLamp d x).link = b.link := by
  cases d <;> rfl

@[simp] theorem Blocks.setDeck_deck (b : Blocks) (d : DeckId) : b.setDeck d (b.deck d) = b := by cases d <;> rfl

@[simp] theorem Blocks.setLamp_lamp (b : Blocks) (d : DeckId) : b.setLamp d (b.lamp d) = b := by cases d <;> rfl

@[simp] theorem Blocks.setDeck_setDeck (b : Blocks) (d : DeckId) (x y : Deck) :
    (b.setDeck d x).setDeck d y = b.setDeck d y := by cases d <;> rfl

@[simp] theorem Blocks.setLamp_setLamp (b : Blocks) (d : DeckId) (x y : Lamp) :
    (b.setLamp d x).setLamp d y = b.setLamp d y := by cases d <;> rfl

/-! ## The working copy: which fields each change leaves -/

@[simp] theorem Work.start_st (b : Blocks) : (Work.start b).st = b := rfl
@[simp] theorem Work.start_out (b : Blocks) : (Work.start b).out = [] := rfl
@[simp] theorem Work.start_msgs (b : Blocks) : (Work.start b).msgs = [] := rfl
@[simp] theorem Work.start_posts (b : Blocks) : (Work.start b).posts = [] := rfl

@[simp] theorem Work.modDeck_st (w : Work) (d : DeckId) (f : Deck → Deck) :
    (w.modDeck d f).st = w.st.setDeck d (f (w.st.deck d)) := rfl
@[simp] theorem Work.modDeck_out (w : Work) (d : DeckId) (f : Deck → Deck) : (w.modDeck d f).out = w.out := rfl
@[simp] theorem Work.modDeck_msgs (w : Work) (d : DeckId) (f : Deck → Deck) : (w.modDeck d f).msgs = w.msgs := rfl
@[simp] theorem Work.modDeck_posts (w : Work) (d : DeckId) (f : Deck → Deck) : (w.modDeck d f).posts = w.posts := rfl

@[simp] theorem Work.modLamp_st (w : Work) (d : DeckId) (f : Lamp → Lamp) :
    (w.modLamp d f).st = w.st.setLamp d (f (w.st.lamp d)) := rfl
@[simp] theorem Work.modLamp_out (w : Work) (d : DeckId) (f : Lamp → Lamp) : (w.modLamp d f).out = w.out := rfl
@[simp] theorem Work.modLamp_msgs (w : Work) (d : DeckId) (f : Lamp → Lamp) : (w.modLamp d f).msgs = w.msgs := rfl
@[simp] theorem Work.modLamp_posts (w : Work) (d : DeckId) (f : Lamp → Lamp) : (w.modLamp d f).posts = w.posts := rfl

@[simp] theorem Work.modLcu_st (w : Work) (f : Lcu → Lcu) : (w.modLcu f).st = { w.st with lcu := f w.st.lcu } := rfl
@[simp] theorem Work.modLcu_out (w : Work) (f : Lcu → Lcu) : (w.modLcu f).out = w.out := rfl
@[simp] theorem Work.modLcu_msgs (w : Work) (f : Lcu → Lcu) : (w.modLcu f).msgs = w.msgs := rfl
@[simp] theorem Work.modLcu_posts (w : Work) (f : Lcu → Lcu) : (w.modLcu f).posts = w.posts := rfl

@[simp] theorem Work.modPres_st (w : Work) (f : Pres → Pres) :
    (w.modPres f).st = { w.st with pres := f w.st.pres } := rfl
@[simp] theorem Work.modPres_out (w : Work) (f : Pres → Pres) : (w.modPres f).out = w.out := rfl
@[simp] theorem Work.modPres_msgs (w : Work) (f : Pres → Pres) : (w.modPres f).msgs = w.msgs := rfl
@[simp] theorem Work.modPres_posts (w : Work) (f : Pres → Pres) : (w.modPres f).posts = w.posts := rfl

@[simp] theorem Work.modTape_st (w : Work) (f : Tape → Tape) :
    (w.modTape f).st = { w.st with tape := f w.st.tape } := rfl
@[simp] theorem Work.modTape_out (w : Work) (f : Tape → Tape) : (w.modTape f).out = w.out := rfl
@[simp] theorem Work.modTape_msgs (w : Work) (f : Tape → Tape) : (w.modTape f).msgs = w.msgs := rfl
@[simp] theorem Work.modTape_posts (w : Work) (f : Tape → Tape) : (w.modTape f).posts = w.posts := rfl

@[simp] theorem Work.modRemote_st (w : Work) (f : Remote → Remote) :
    (w.modRemote f).st = { w.st with remote := f w.st.remote } := rfl
@[simp] theorem Work.modRemote_out (w : Work) (f : Remote → Remote) : (w.modRemote f).out = w.out := rfl
@[simp] theorem Work.modRemote_msgs (w : Work) (f : Remote → Remote) : (w.modRemote f).msgs = w.msgs := rfl
@[simp] theorem Work.modRemote_posts (w : Work) (f : Remote → Remote) : (w.modRemote f).posts = w.posts := rfl

@[simp] theorem Work.modLink_st (w : Work) (f : Link → Link) :
    (w.modLink f).st = { w.st with link := f w.st.link } := rfl
@[simp] theorem Work.modLink_out (w : Work) (f : Link → Link) : (w.modLink f).out = w.out := rfl
@[simp] theorem Work.modLink_msgs (w : Work) (f : Link → Link) : (w.modLink f).msgs = w.msgs := rfl
@[simp] theorem Work.modLink_posts (w : Work) (f : Link → Link) : (w.modLink f).posts = w.posts := rfl

@[simp] theorem Work.event_st (w : Work) (c : EventCode) (fs : List Byte) : (w.event c fs).st = w.st := rfl
@[simp] theorem Work.event_out (w : Work) (c : EventCode) (fs : List Byte) :
    (w.event c fs).out = w.out ++ [.event c fs] := rfl
@[simp] theorem Work.event_msgs (w : Work) (c : EventCode) (fs : List Byte) : (w.event c fs).msgs = w.msgs := rfl
@[simp] theorem Work.event_posts (w : Work) (c : EventCode) (fs : List Byte) : (w.event c fs).posts = w.posts := rfl

@[simp] theorem Work.answer_st (w : Work) (t : Ticket) (s : Status) (fs : List Byte) : (w.answer t s fs).st = w.st := rfl
@[simp] theorem Work.answer_out (w : Work) (t : Ticket) (s : Status) (fs : List Byte) :
    (w.answer t s fs).out = w.out ++ [.answer t s fs] := rfl
@[simp] theorem Work.answer_msgs (w : Work) (t : Ticket) (s : Status) (fs : List Byte) :
    (w.answer t s fs).msgs = w.msgs := rfl
@[simp] theorem Work.answer_posts (w : Work) (t : Ticket) (s : Status) (fs : List Byte) :
    (w.answer t s fs).posts = w.posts := rfl

@[simp] theorem Work.answerAll_st (w : Work) (ts : List Ticket) (s : Status) : (w.answerAll ts s).st = w.st := rfl
@[simp] theorem Work.answerAll_msgs (w : Work) (ts : List Ticket) (s : Status) : (w.answerAll ts s).msgs = w.msgs := rfl
@[simp] theorem Work.answerAll_posts (w : Work) (ts : List Ticket) (s : Status) :
    (w.answerAll ts s).posts = w.posts := rfl
@[simp] theorem Work.answerAll_nil (w : Work) (s : Status) : w.answerAll [] s = w := by simp [Work.answerAll]

@[simp] theorem Work.answerOpt_none (w : Work) (s : Status) : w.answerOpt none s = w := rfl
@[simp] theorem Work.answerOpt_some (w : Work) (t : Ticket) (s : Status) : w.answerOpt (some t) s = w.answer t s [] := rfl

@[simp] theorem Work.send_st (w : Work) (m : Msg) : (w.send m).st = w.st := rfl
@[simp] theorem Work.send_out (w : Work) (m : Msg) : (w.send m).out = w.out := rfl
@[simp] theorem Work.send_msgs (w : Work) (m : Msg) : (w.send m).msgs = w.msgs ++ [m] := rfl
@[simp] theorem Work.send_posts (w : Work) (m : Msg) : (w.send m).posts = w.posts := rfl

@[simp] theorem Work.post_st (w : Work) (p : Post) : (w.post p).st = w.st := rfl
@[simp] theorem Work.post_out (w : Work) (p : Post) : (w.post p).out = w.out := rfl
@[simp] theorem Work.post_msgs (w : Work) (p : Post) : (w.post p).msgs = w.msgs := rfl
@[simp] theorem Work.post_posts (w : Work) (p : Post) : (w.post p).posts = w.posts ++ [p] := rfl

@[simp] theorem Work.deck_def (w : Work) (d : DeckId) : w.deck d = w.st.deck d := rfl
@[simp] theorem Work.lamp_def (w : Work) (d : DeckId) : w.lamp d = w.st.lamp d := rfl

/-! ## The state: the statements' changes of one block -/

@[simp] theorem State.setPres_port (s : State) (f : Pres → Pres) : (s.setPres f).port = s.port := rfl
@[simp] theorem State.setPres_arb (s : State) (f : Pres → Pres) : (s.setPres f).arb = s.arb := rfl
@[simp] theorem State.setTape_port (s : State) (f : Tape → Tape) : (s.setTape f).port = s.port := rfl
@[simp] theorem State.setTape_arb (s : State) (f : Tape → Tape) : (s.setTape f).arb = s.arb := rfl
@[simp] theorem State.setLcu_port (s : State) (f : Lcu → Lcu) : (s.setLcu f).port = s.port := rfl
@[simp] theorem State.setDeck_port (s : State) (d : DeckId) (f : Deck → Deck) : (s.setDeck d f).port = s.port := rfl
@[simp] theorem State.setLamp_port (s : State) (d : DeckId) (f : Lamp → Lamp) : (s.setLamp d f).port = s.port := rfl
@[simp] theorem State.modLink_port (s : State) (f : Link → Link) : (s.modLink f).port = s.port := rfl
@[simp] theorem State.modLink_arb (s : State) (f : Link → Link) : (s.modLink f).arb = s.arb := rfl
@[simp] theorem State.modRemote_port (s : State) (f : Remote → Remote) : (s.modRemote f).port = s.port := rfl
@[simp] theorem State.modRemote_arb (s : State) (f : Remote → Remote) : (s.modRemote f).arb = s.arb := rfl

/-! ## Ramps and delivery on a quiet copy -/

/-- A step that raised no report delivers nothing. -/
theorem Work.deliver_quiet (n : Nat) (w : Work) (h : w.msgs = []) : Work.deliver n w = w := by
  cases n with
  | zero => rfl
  | succ n => rw [Work.deliver, h]

end Sys2Proof.Machine
end

