-- ==== Sys2Proof/Laws/Port.lean ====
section
/-! SUPPORT. The command port: every operation keeps the port's laws, and an answer given at the taking of its command
returns the places reserved for it. -/

namespace Sys2Proof.Machine

theorem padRecord_length (bs : List Byte) : (padRecord bs).length = 32 := by
  simp [padRecord]

theorem eventRecord_length (c : EventCode) (fs : List Byte) : (eventRecord c fs).length = 32 := padRecord_length _

theorem responseRecord_length (code : Nat) (tag : Byte) (st : Status) (fs : List Byte) (k : Nat) :
    (responseRecord code tag st fs k).length = 32 := by
  unfold responseRecord
  dsimp only
  split <;> exact padRecord_length _

theorem responseRun_record_length (code : Nat) (tag : Byte) (st : Status) (fs : List Byte) :
    ∀ r ∈ responseRun code tag st fs, r.length = 32 := by
  intro r h
  simp only [responseRun, List.mem_map] at h
  obtain ⟨k, _, rfl⟩ := h
  exact responseRecord_length ..

theorem responseRun_length (code : Nat) (tag : Byte) (st : Status) (fs : List Byte) :
    (responseRun code tag st fs).length = runLength fs.length := by simp [responseRun]

/-- Removing the command an answer is for returns its places. -/
theorem reserved_erase (q : Taken → Bool) (l : List Taken) (x : Taken) (h : l.find? q = some x) :
    (l.map fun t => t.places).sum = ((l.eraseP q).map fun t => t.places).sum + x.places := by
  induction l with
  | nil => simp at h
  | cons y ys ih =>
    by_cases hy : q y = true
    · simp [hy] at h
      subst h
      simp [hy]; omega
    · simp [hy] at h
      have := ih h
      simp [hy, this]; omega

/-! ## Records joining and leaving the outgoing queue -/

theorem Port.admitEvent_ok (p : Port) (r : Record) (hr : r.length = 32) (h : p.Ok) : (p.admitEvent r).Ok := by
  obtain ⟨h1, h2, h3, h4, h5, h6, h7, h8⟩ := h
  unfold Port.admitEvent
  split
  · rename_i hlt
    refine ⟨h1, h2, h3, ?_, h5, ?_, h7, h8⟩
    · simp only [Port.reserved] at *; simp; omega
    · intro x hx
      rcases List.mem_append.1 hx with hx | hx
      · exact h6 x hx
      · simp at hx; subst hx; exact hr
  · exact ⟨h1, h2, h3, h4, by unfold sat255; split <;> simp; omega, h6, h7, h8⟩

theorem Port.deliverAnswer_ok (p : Port) (t : Ticket) (st : Status) (fs : List Byte) (h : p.Ok) :
    (p.deliverAnswer t st fs).Ok := by
  obtain ⟨h1, h2, h3, h4, h5, h6, h7, h8⟩ := h
  unfold Port.deliverAnswer
  split
  · exact ⟨h1, h2, h3, h4, h5, h6, h7, h8⟩
  · rename_i x hx
    have hsum := reserved_erase _ _ _ hx
    refine ⟨h1, h2, h3, ?_, h5, ?_, ?_, ?_⟩
    · simp only [Port.reserved] at *
      simp only [List.length_append, List.length_take]
      omega
    · intro r hr
      rcases List.mem_append.1 hr with hr | hr
      · exact h6 r hr
      · exact responseRun_record_length _ _ _ _ r (List.mem_of_mem_take hr)
    · intro y hy; exact h7 y (List.mem_of_mem_eraseP hy)
    · exact h8.sublist ((List.eraseP_sublist).map _)

theorem Port.apply_ok (p : Port) (e : Emit) (h : p.Ok) : (p.apply e).Ok := by
  cases e with
  | event c fs => exact p.admitEvent_ok _ (eventRecord_length c fs) h
  | answer t st fs => exact p.deliverAnswer_ok t st fs h

theorem Port.applyAll_ok (es : List Emit) (p : Port) (h : p.Ok) : (p.applyAll es).Ok := by
  induction es generalizing p with
  | nil => exact h
  | cons e es ih => exact ih _ (p.apply_ok e h)

@[simp] theorem Port.applyAll_nil (p : Port) : p.applyAll [] = p := rfl

@[simp] theorem Port.applyAll_cons (p : Port) (e : Emit) (es : List Emit) :
    p.applyAll (e :: es) = (p.apply e).applyAll es := rfl

/-! ## Transactions and the rings -/

theorem Port.writeCmdSlot_ok (p : Port) (slot : Nat) (bs : List Byte) (h : p.Ok) : (p.writeCmdSlot slot bs).Ok := by
  obtain ⟨⟨h1, h1'⟩, h⟩ := h
  unfold Port.writeCmdSlot
  dsimp only
  split
  · split
    · rename_i hb
      refine ⟨⟨by simpa using h1, ?_⟩, h⟩
      intro x hx
      rcases List.mem_or_eq_of_mem_set hx with hx | rfl
      · exact h1' x hx
      · exact hb.1
    · exact ⟨⟨h1, h1'⟩, h⟩
  · exact ⟨⟨h1, h1'⟩, h⟩

theorem Port.giveCmd_ok (p : Port) (h : p.Ok) : p.giveCmd.Ok := by
  obtain ⟨⟨h1, h1'⟩, h⟩ := h
  unfold Port.giveCmd
  dsimp only
  split
  · rename_i x hx
    split
    · exact ⟨⟨h1, h1'⟩, h⟩
    · refine ⟨⟨by simpa using h1, ?_⟩, h⟩
      intro y hy
      rcases List.mem_or_eq_of_mem_set hy with hy | rfl
      · exact h1' y hy
      · exact h1' x (List.mem_of_getElem? hx)
  · exact ⟨⟨h1, h1'⟩, h⟩

theorem Port.returnRsp_ok (p : Port) (h : p.Ok) : p.returnRsp.Ok := by
  obtain ⟨h1, ⟨h2, h2'⟩, h3, h⟩ := h
  unfold Port.returnRsp
  dsimp only
  split
  · rename_i x hx
    split
    · exact ⟨h1, ⟨h2, h2'⟩, h3, h⟩
    · refine ⟨h1, ⟨by simpa using h2, ?_⟩, ?_, h⟩
      · intro y hy
        rcases List.mem_or_eq_of_mem_set hy with hy | rfl
        · exact h2' y hy
        · exact h2' x (List.mem_of_getElem? hx)
      · intro y hy
        rcases List.mem_or_eq_of_mem_set hy with hy | rfl
        · exact h3 y hy
        · intro _; rfl
  · exact ⟨h1, ⟨h2, h2'⟩, h3, h⟩

theorem stampLost_length (r : Record) (n : Nat) : (stampLost r n).length = r.length := by
  unfold stampLost; split <;> simp

theorem Port.moveRecord_ok (p : Port) (h : p.Ok) : p.moveRecord.Ok := by
  obtain ⟨h1, ⟨h2, h2'⟩, h3, h4, h5, h6, h7, h8⟩ := h
  unfold Port.moveRecord
  split
  · split
    · exact ⟨h1, ⟨h2, h2'⟩, h3, h4, h5, h6, h7, h8⟩
    · rename_i r rest hout
      refine ⟨h1, ⟨by simpa using h2, ?_⟩, ?_, ?_, ?_, ?_, h7, h8⟩
      · intro x hx
        rcases List.mem_or_eq_of_mem_set hx with hx | rfl
        · exact h2' x hx
        · show (stampLost r p.lost).length = 32
          rw [stampLost_length]
          exact h6 r (by rw [hout]; exact List.mem_cons_self)
      · intro x hx
        rcases List.mem_or_eq_of_mem_set hx with hx | rfl
        · exact h3 x hx
        · intro hp; cases hp
      · simp only [Port.reserved, hout, List.length_cons] at *; omega
      · dsimp only; split <;> omega
      · intro x hx; exact h6 x (by rw [hout]; exact List.mem_cons_of_mem _ hx)
  · exact ⟨h1, ⟨h2, h2'⟩, h3, h4, h5, h6, h7, h8⟩

theorem Port.clear_ok (p : Port) (h : p.Ok) : p.clear.Ok := by
  obtain ⟨⟨h1, h1'⟩, ⟨h2, h2'⟩, _⟩ := h
  refine ⟨⟨by simpa [Port.clear] using h1, ?_⟩, ⟨by simpa [Port.clear] using h2, ?_⟩, ?_,
    by simp [Port.clear, Port.reserved, Config.outgoingPlaces], by simp [Port.clear], by simp [Port.clear],
    by simp [Port.clear], by simp [Port.clear]⟩
  · intro x hx
    simp only [Port.clear, List.mem_map] at hx
    obtain ⟨y, hy, rfl⟩ := hx
    exact h1' y hy
  · intro x hx
    simp only [Port.clear, List.mem_map] at hx
    obtain ⟨y, hy, rfl⟩ := hx
    exact h2' y hy
  · intro x hx
    simp only [Port.clear, List.mem_map] at hx
    obtain ⟨y, _, rfl⟩ := hx
    intro _; rfl

theorem Port.takeSlot_length (p : Port) (h : p.Ok) : p.takeSlot.bytes.length = 32 := by
  unfold Port.takeSlot
  cases hx : p.cmd[p.take.val]? with
  | none => simp [zeroRecord]
  | some x => exact h.1.2 x (List.mem_of_getElem? hx)

theorem Port.releaseSlot_ok (p : Port) (h : p.Ok) : p.releaseSlot.Ok := by
  have hl := p.takeSlot_length h
  obtain ⟨⟨h1, h1'⟩, h⟩ := h
  refine ⟨⟨by simpa [Port.releaseSlot] using h1, ?_⟩, h⟩
  intro x hx
  rcases List.mem_or_eq_of_mem_set hx with hx | rfl
  · exact h1' x hx
  · exact hl

theorem Port.reserve_ok (p : Port) (code : Nat) (tag : Byte) (hc : p.canReserve code = true) (h : p.Ok) :
    (p.reserve code tag).Ok := by
  obtain ⟨h1, h2, h3, h4, h5, h6, h7, h8⟩ := h
  refine ⟨h1, h2, h3, ?_, h5, h6, ?_, ?_⟩
  · have hc' : p.out.length + p.reserved + places code ≤ Config.outgoingPlaces := of_decide_eq_true hc
    have : (p.reserve code tag).reserved = p.reserved + places code := by simp [Port.reserve, Port.reserved]
    show p.out.length + (p.reserve code tag).reserved ≤ Config.outgoingPlaces
    omega
  · intro x hx
    simp only [Port.reserve, List.mem_append, List.mem_singleton] at hx ⊢
    rcases hx with hx | rfl
    · have := h7 x hx
      exact ⟨by omega, this.2⟩
    · simp
  · simp only [Port.reserve, List.map_append, List.map_cons, List.map_nil]
    refine List.Nodup.append h8 (List.nodup_singleton _) ?_
    intro i hi hj
    simp only [List.mem_map] at hi
    obtain ⟨x, hx, rfl⟩ := hi
    have := (h7 x hx).1
    simp only [List.mem_singleton] at hj
    omega

/-! ## An answer given at the taking of its command -/

theorem Port.find_reserved (p : Port) (code : Nat) (tag : Byte)
    (h : ∀ x ∈ p.unanswered, x.ticket.id < p.nextId) :
    ((p.reserve code tag).unanswered.find? fun x => x.ticket.id == (p.nextTicket tag).id) =
      some { ticket := p.nextTicket tag, code := code, places := places code } := by
  simp only [Port.reserve, Port.nextTicket, List.find?_append]
  have : (p.unanswered.find? fun x => x.ticket.id == p.nextId) = none := by
    rw [List.find?_eq_none]
    intro x hx
    have := h x hx
    simp; omega
  simp [this]

theorem Port.erase_reserved (p : Port) (code : Nat) (tag : Byte)
    (h : ∀ x ∈ p.unanswered, x.ticket.id < p.nextId) :
    ((p.reserve code tag).unanswered.eraseP fun x => x.ticket.id == (p.nextTicket tag).id) = p.unanswered := by
  simp only [Port.reserve, Port.nextTicket]
  rw [List.eraseP_append_right]
  · simp
  · intro x hx
    have := h x hx
    simp; omega

/-- The port once a command has been taken and answered at one event (R210, R211). -/
theorem Port.reserve_answer (p : Port) (code : Nat) (tag : Byte) (st : Status) (fs : List Byte) (h : p.Ok)
    (hl : runLength fs.length ≤ places code) :
    (p.reserve code tag).apply (.answer (p.nextTicket tag) st fs) =
      { p with out := p.out ++ responseRun code tag st fs, nextId := p.nextId + 1 } := by
  have hid := fun x hx => (h.2.2.2.2.2.2.1 x hx).1
  simp only [Port.apply, Port.deliverAnswer, Port.find_reserved p code tag hid, Port.erase_reserved p code tag hid]
  have : (responseRun code tag st fs).length ≤ places code := by rw [responseRun_length]; exact hl
  simp [List.take_of_length_le this, Port.reserve, Port.nextTicket]

end Sys2Proof.Machine
end

