-- ==== Sys2Proof/Laws/Arbiter.lean ====
section
/-! SUPPORT. The request arbiter: every operation keeps its laws. -/

namespace Sys2Proof.Machine

/-- The law of one queue. -/
abbrev queueGood (q : List Request) (s : Source) : Prop := q.length ≤ capacity s ∧ ∀ r ∈ q, r.source = s

theorem Arbiter.ok_iff (a : Arbiter) :
    a.Ok ↔ (∀ s, queueGood (a.queue s) s) ∧ (phasesGood a.phases ∧ authorityGood a.authority) ∧ a.pointer < 16 ∧
      (∀ p ∈ a.pendingPhases, phasesGood p.table) ∧ (∀ p ∈ a.pendingAuthority, authorityGood p.table) := by
  constructor
  · rintro ⟨h1, h2, h3, h4, g1, g2, g3, g4, h⟩
    refine ⟨?_, h⟩
    intro s
    cases s
    · exact ⟨h1, g1⟩
    · exact ⟨h2, g2⟩
    · exact ⟨h3, g3⟩
    · exact ⟨h4, g4⟩
  · rintro ⟨h, hp⟩
    exact ⟨(h .cport).1, (h .link).1, (h .remote).1, (h .cue).1, (h .cport).2, (h .link).2, (h .remote).2,
      (h .cue).2, hp⟩

@[simp] theorem Arbiter.queue_setQueue_same (a : Arbiter) (s : Source) (q : List Request) :
    (a.setQueue s q).queue s = q := by cases s <;> rfl

theorem Arbiter.queue_setQueue_ne (a : Arbiter) (s u : Source) (q : List Request) (h : u ≠ s) :
    (a.setQueue s q).queue u = a.queue u := by cases s <;> cases u <;> first | rfl | exact absurd rfl h

@[simp] theorem Arbiter.setQueue_phases (a : Arbiter) (s : Source) (q : List Request) :
    (a.setQueue s q).phases = a.phases := by cases s <;> rfl

@[simp] theorem Arbiter.setQueue_pointer (a : Arbiter) (s : Source) (q : List Request) :
    (a.setQueue s q).pointer = a.pointer := by cases s <;> rfl

@[simp] theorem Arbiter.setQueue_pendingPhases (a : Arbiter) (s : Source) (q : List Request) :
    (a.setQueue s q).pendingPhases = a.pendingPhases := by cases s <;> rfl

@[simp] theorem Arbiter.setQueue_authority (a : Arbiter) (s : Source) (q : List Request) :
    (a.setQueue s q).authority = a.authority := by cases s <;> rfl

@[simp] theorem Arbiter.setQueue_pendingAuthority (a : Arbiter) (s : Source) (q : List Request) :
    (a.setQueue s q).pendingAuthority = a.pendingAuthority := by cases s <;> rfl

theorem Arbiter.setQueue_ok (a : Arbiter) (s : Source) (q : List Request) (h : a.Ok) (hq : queueGood q s) :
    (a.setQueue s q).Ok := by
  rw [Arbiter.ok_iff] at h ⊢
  refine ⟨?_, ?_⟩
  case refine_2 =>
    rw [Arbiter.setQueue_phases, Arbiter.setQueue_authority, Arbiter.setQueue_pointer,
      Arbiter.setQueue_pendingPhases, Arbiter.setQueue_pendingAuthority]
    exact h.2
  intro u
  by_cases hu : u = s
  · subst hu; simpa using hq
  · rw [Arbiter.queue_setQueue_ne a s u q hu]; exact h.1 u

theorem Arbiter.enqueue_ok (a : Arbiter) (m : Mode) (r : Request) (h : a.Ok) : (a.enqueue m r).2.Ok := by
  unfold Arbiter.enqueue
  split
  · exact h
  · dsimp only
    split
    · rename_i hlt
      refine a.setQueue_ok _ _ h ⟨by simp; omega, ?_⟩
      intro x hx
      rcases List.mem_append.1 hx with hx | hx
      · exact ((a.ok_iff.1 h).1 r.source).2 x hx
      · simp at hx; rw [hx]
    · exact h

/-- A request admitted joins the tail of its source's queue (R172). -/
theorem Arbiter.enqueue_queued (a : Arbiter) (m : Mode) (r : Request) (h : a.refusal m r.source r.kind = none)
    (hl : (a.queue r.source).length < capacity r.source) :
    a.enqueue m r = (.queued, a.setQueue r.source (a.queue r.source ++ [r])) := by
  simp [Arbiter.enqueue, h, hl]

theorem Arbiter.activated_ok (a : Arbiter) (h : a.Ok) : a.activated.Ok := by
  obtain ⟨h1, h2, h3, h4, g1, g2, g3, g4, ⟨hp, ha⟩, hq, hr, hs⟩ := h
  refine ⟨h1, h2, h3, h4, g1, g2, g3, g4, ⟨?_, ?_⟩, ?_, by simp [Arbiter.activated], by simp [Arbiter.activated]⟩
  · simp only [Arbiter.activated]
    split
    · rename_i p hp'; exact hr p hp'
    · exact hp
  · simp only [Arbiter.activated]
    split
    · rename_i p hp'; exact hs p hp'
    · exact ha
  · simp only [Arbiter.activated]
    split
    · omega
    · exact hq

/-- The re-check leaves a tail of the queue (R177). -/
theorem Arbiter.discards_suffix (a : Arbiter) (m : Mode) (q : List Request) : (a.discards m q).2 <:+ q := by
  induction q with
  | nil => exact List.suffix_refl _
  | cons r q ih =>
    unfold Arbiter.discards
    split
    · exact List.IsSuffix.trans ih (List.suffix_cons r q)
    · exact List.suffix_refl _

theorem queueGood_suffix {q q' : List Request} {s : Source} (h : q' <:+ q) (hq : queueGood q s) : queueGood q' s :=
  ⟨le_trans h.length_le hq.1, fun r hr => hq.2 r (h.mem hr)⟩

theorem Arbiter.scan_ok (m : Mode) (n i : Nat) (a : Arbiter) (h : a.Ok) : (Arbiter.scan m n i a).2.2.Ok := by
  induction n generalizing i a with
  | zero => exact h
  | succ n ih =>
    unfold Arbiter.scan
    split
    · exact ih _ _ h
    · rename_i src _
      have hq := (a.ok_iff.1 h).1 src
      have hs := a.discards_suffix m (a.queue src)
      dsimp only
      split
      · exact ih _ _ (a.setQueue_ok src [] h ⟨by simp, by simp⟩)
      · rename_i r q hrest
        rw [hrest] at hs
        have hq' : queueGood q src := queueGood_suffix ((List.suffix_cons r q).trans hs) hq
        have := a.setQueue_ok src q h hq'
        rw [Arbiter.ok_iff] at this ⊢
        refine ⟨fun s => ?_, this.2.1, Nat.mod_lt _ (by omega), this.2.2.2⟩
        have := this.1 s
        cases s <;> exact this

theorem Arbiter.removeCport_ok (a : Arbiter) (id : Nat) (h : a.Ok) : (a.removeCport id).Ok := by
  obtain ⟨h1, h2, h3, h4, g1, h⟩ := h
  exact ⟨le_trans (List.length_filter_le _ _) h1, h2, h3, h4, fun r hr => g1 r (List.mem_of_mem_filter hr), h⟩

theorem Arbiter.partReset_ok (a : Arbiter) (h : a.Ok) : a.partReset.Ok := by
  obtain ⟨_, _, _, _, _, _, _, _, hp, _, _, _⟩ := h
  exact ⟨by simp [Arbiter.partReset], by simp [Arbiter.partReset], by simp [Arbiter.partReset],
    by simp [Arbiter.partReset], by simp [Arbiter.partReset], by simp [Arbiter.partReset],
    by simp [Arbiter.partReset], by simp [Arbiter.partReset], hp, by simp [Arbiter.partReset],
    by simp [Arbiter.partReset], by simp [Arbiter.partReset]⟩

theorem Arbiter.reset_ok (key : Bool) : (Arbiter.reset key).Ok := by
  cases key <;> decide

theorem allSome_length {α : Type} (xs : List (Option α)) (ys : List α) (h : allSome xs = some ys) :
    ys.length = xs.length := by
  induction xs generalizing ys with
  | nil => simp [allSome] at h; subst h; rfl
  | cons x xs ih =>
    cases x with
    | none => simp [allSome] at h
    | some x =>
      simp only [allSome, Option.map_eq_some_iff] at h
      obtain ⟨zs, hz, rfl⟩ := h
      simp [ih zs hz]

end Sys2Proof.Machine
end

