-- ==== Sys2Proof/Laws/Cues.lean ====
section
/-! SUPPORT. The cue word that the encoder writes, read back field by field (R149, R219). -/

namespace Sys2Proof.Machine

/-- A step of the check keeps it a byte. -/
theorem crcBit_lt (reg : Nat) (bit : Bool) : crcBit reg bit < 256 := by
  unfold crcBit
  have h : reg * 2 % 256 < 2 ^ 8 := Nat.mod_lt _ (by decide)
  split
  · exact Nat.xor_lt_two_pow h (by decide)
  · exact h

/-- The check after any number of bits is a byte. -/
theorem foldl_crcBit_lt (f : Nat → Bool) (bits : List Nat) (reg : Nat) (h : reg < 256) :
    bits.foldl (fun r i => crcBit r (f i)) reg < 256 := by
  induction bits generalizing reg with
  | nil => exact h
  | cons i bits ih => exact ih _ (crcBit_lt reg (f i))

/-- The check is a byte (R219). -/
theorem cueCheck_lt (kind arg : Nat) : cueCheck kind arg < 256 := by
  unfold cueCheck
  exact foldl_crcBit_lt _ _ _ (by decide)

/-- The word of a kind, an argument and a sequence in range, as a number. -/
theorem encodeWord_toNat (kind arg seq : Nat) (hk : kind < 16) (ha : arg < 256) (hs : seq < 16) :
    (encodeWord kind arg seq).toNat = kind * 2 ^ 20 + arg * 2 ^ 12 + seq * 2 ^ 8 + cueCheck kind arg := by
  have hc := cueCheck_lt kind arg
  unfold encodeWord
  rw [BitVec.toNat_ofNat]
  exact Nat.mod_eq_of_lt (by omega)

@[simp] theorem wordKind_encodeWord (kind arg seq : Nat) (hk : kind < 16) (ha : arg < 256) (hs : seq < 16) :
    wordKind (encodeWord kind arg seq) = kind := by
  have hc := cueCheck_lt kind arg
  unfold wordKind
  rw [encodeWord_toNat kind arg seq hk ha hs]
  omega

@[simp] theorem wordArg_encodeWord (kind arg seq : Nat) (hk : kind < 16) (ha : arg < 256) (hs : seq < 16) :
    wordArg (encodeWord kind arg seq) = arg := by
  have hc := cueCheck_lt kind arg
  unfold wordArg
  rw [encodeWord_toNat kind arg seq hk ha hs]
  omega

@[simp] theorem wordSeq_encodeWord (kind arg seq : Nat) (hk : kind < 16) (ha : arg < 256) (hs : seq < 16) :
    wordSeq (encodeWord kind arg seq) = seq := by
  have hc := cueCheck_lt kind arg
  unfold wordSeq
  rw [encodeWord_toNat kind arg seq hk ha hs]
  omega

/-- A word that the encoder writes passes the decoder's check (R149, R219). -/
@[simp] theorem wordCheck_encodeWord (kind arg seq : Nat) (hk : kind < 16) (ha : arg < 256) (hs : seq < 16) :
    wordCheck (encodeWord kind arg seq) = cueCheck kind arg := by
  have hc := cueCheck_lt kind arg
  unfold wordCheck
  rw [encodeWord_toNat kind arg seq hk ha hs]
  omega

end Sys2Proof.Machine
end

