-- ==== Sys2Proof/Laws/Run.lean ====
section
/-! SUPPORT. How a step's work reaches the state: what a run keeps, what it is when it raises no report and no post, and
what a taken command leaves. -/

namespace Sys2Proof.Machine

/-! ## Held reads (R201) -/

theorem Blocks.settleRead_readOk (b : Blocks) : b.settleRead.ReadOk := by
  unfold Blocks.settleRead
  split
  · intro h; simp [Blocks.readCursor] at h
  · rename_i h
    intro h'
    simpa [h'] using h

theorem Blocks.settleRead_of_ok (b : Blocks) (h : b.ReadOk) : b.settleRead = b := by
  unfold Blocks.settleRead
  by_cases hr : b.link.readHold.isSome = true
  · simp [h hr]
  · simp [hr]

theorem Blocks.linkRead_readOk (b : Blocks) (address : Nat) : (b.linkRead address).ReadOk := by
  unfold Blocks.linkRead
  dsimp only
  split
  · split
    · intro h; simp at h
    · split
      · rename_i h; intro _; exact h
      · intro h; simp [Blocks.readCursor] at h
  · intro h; simp at h

/-- The condition of a held read looks at the cursor and the edit buffer alone. -/
theorem Blocks.readHeld_congr (b c : Blocks) (h : c.link.cursor = b.link.cursor) (he : c.pres.edit = b.pres.edit) :
    c.readHeld = b.readHeld := by
  unfold Blocks.readHeld
  rw [h, he]

/-! ## Runs -/

@[simp] theorem State.runBlocks_arb (f : Work → Work) (s : State) : (s.runBlocks f).1.arb = s.arb := rfl

@[simp] theorem State.runBlocks_pending (f : Work → Work) (s : State) : (s.runBlocks f).1.pending = s.pending := rfl

theorem State.runBlocks_ok (f : Work → Work) (s : State) (h : s.OuterOk) : (s.runBlocks f).1.OuterOk :=
  ⟨Port.applyAll_ok _ _ h.1, h.2.1, Blocks.settleRead_readOk _⟩

theorem State.takePost_ok (p : Post) (s : State) (h : s.OuterOk) : (s.takePost p).OuterOk := by
  cases p with
  | flush =>
    obtain ⟨hp, ⟨h1, h2, h3, _, g1, g2, g3, _, h⟩, hb⟩ := h
    exact ⟨hp, ⟨h1, h2, h3, by simp [State.takePost], g1, g2, g3, by simp [State.takePost], h⟩, hb⟩
  | request kind arg =>
    unfold State.takePost
    dsimp only
    have ha := s.arb.enqueue_ok s.blk.pres.mode { source := .cue, kind := kind, arg := arg, ticket := none } h.2.1
    have h' : ({ s with arb := (s.arb.enqueue s.blk.pres.mode
      { source := .cue, kind := kind, arg := arg, ticket := none }).2 } : State).OuterOk := ⟨h.1, ha, h.2.2⟩
    split
    · exact h'
    · exact State.runBlocks_ok _ _ h'
    · exact State.runBlocks_ok _ _ h'

theorem State.takePost_pending (p : Post) (s : State) : (s.takePost p).pending = s.pending := by
  cases p with
  | flush => rfl
  | request kind arg =>
    unfold State.takePost
    dsimp only
    split <;> rfl

/-- A run keeps the laws of the units that face outwards. -/
theorem State.run_ok (f : Work → Work) (s : State) (h : s.OuterOk) : (s.run f).OuterOk := by
  unfold State.run
  dsimp only
  generalize hs : (s.runBlocks f).1 = s1
  have h1 : s1.OuterOk := hs ▸ State.runBlocks_ok f s h
  generalize (s.runBlocks f).2 = ps
  clear hs h
  induction ps generalizing s1 with
  | nil => exact h1
  | cons p ps ih => exact ih _ (State.takePost_ok p s1 h1)

/-- A run leaves the queue of waiting commands. -/
theorem State.run_pending (f : Work → Work) (s : State) : (s.run f).pending = s.pending := by
  unfold State.run
  dsimp only
  have h : ∀ (ps : List Post) (t : State), (ps.foldl State.takePost t).pending = t.pending := by
    intro ps
    induction ps with
    | nil => intro t; rfl
    | cons p ps ih => intro t; rw [List.foldl_cons, ih, State.takePost_pending]
  rw [h, State.runBlocks_pending]

/-- A run whose work raises no report and no post is one change of the blocks and of the port. -/
theorem State.run_quiet (f : Work → Work) (s : State) (hm : (f (Work.start s.blk)).msgs = [])
    (hp : (f (Work.start s.blk)).posts = []) :
    s.run f = { s with
      blk := (f (Work.start s.blk)).st.settleRead, port := s.port.applyAll (f (Work.start s.blk)).out } := by
  simp [State.run, State.runBlocks, Work.deliver_quiet _ _ hm, hp]

/-- A run whose work raises one report, whose handling raises none and posts nothing. -/
theorem State.run_one (f : Work → Work) (s : State) (m : Msg) (hm : (f (Work.start s.blk)).msgs = [m])
    (hm' : ((({ f (Work.start s.blk) with msgs := [] } : Work).handle m)).msgs = [])
    (hp : ((({ f (Work.start s.blk) with msgs := [] } : Work).handle m)).posts = []) :
    s.run f = { s with
      blk := (({ f (Work.start s.blk) with msgs := [] } : Work).handle m).st.settleRead
      port := s.port.applyAll (({ f (Work.start s.blk) with msgs := [] } : Work).handle m).out } := by
  have hd : Work.deliver deliverFuel (f (Work.start s.blk)) =
      ({ f (Work.start s.blk) with msgs := [] } : Work).handle m := by
    show Work.deliver (63 + 1) _ = _
    rw [Work.deliver, hm]
    exact Work.deliver_quiet _ _ hm'
  simp [State.run, State.runBlocks, hd, hp]

/-! ## Taking -/

theorem State.takeDirect_ok (s : State) (code : Nat) (tag : Byte) (f : Ticket → State → State) (h : s.OuterOk)
    (hf : ∀ t s', s'.OuterOk → (f t s').OuterOk) : (s.takeDirect code tag f).OuterOk := by
  unfold State.takeDirect
  split
  · rename_i ht
    rw [State.takeable, Bool.and_eq_true] at ht
    exact hf _ _ ⟨Port.reserve_ok _ _ _ ht.1 h.1, h.2⟩
  · exact h

theorem State.takeDirect_pending (s : State) (code : Nat) (tag : Byte) (f : Ticket → State → State)
    (hf : ∀ t s', (f t s').pending = s'.pending) : (s.takeDirect code tag f).pending = s.pending := by
  unfold State.takeDirect
  split
  · exact hf _ _
  · rfl

/-- A command that may be taken is taken: it runs on the state in which its places are reserved (R210). -/
theorem State.takeDirect_takes (s : State) (code : Nat) (tag : Byte) (f : Ticket → State → State)
    (h : s.takeable code = true) : s.takeDirect code tag f = f (s.ticket tag) (s.withheld code tag) := by
  simp [State.takeDirect, h, State.take, State.withheld, State.ticket]

theorem State.answer_ok (s : State) (t : Ticket) (st : Status) (fs : List Byte) (h : s.OuterOk) : (s.answer t st fs).OuterOk :=
  ⟨Port.apply_ok _ _ h.1, h.2⟩

/-- A command answered at its taking, once its work on the blocks is known and has raised only the answer (R210,
R211). -/
theorem State.takeDirect_answers (s : State) (code : Nat) (tag : Byte) (f : Ticket → Work → Work) (status : Status)
    (fs : List Byte) (blk : Blocks) (h : s.Takes code)
    (hw : f (s.ticket tag) (Work.start s.blk) =
      { st := blk, out := [.answer (s.ticket tag) status fs], msgs := [], posts := [] })
    (hb : blk.ReadOk) (hl : runLength fs.length ≤ places code) :
    s.takeDirect code tag (fun t s => s.run (f t)) = { s.answered code tag status fs with blk := blk } := by
  rw [State.takeDirect_takes _ _ _ _ h.2, State.run_quiet]
  · have hw' : f (s.ticket tag) (Work.start (s.withheld code tag).blk) =
      { st := blk, out := [.answer (s.ticket tag) status fs], msgs := [], posts := [] } := hw
    rw [hw']
    simp only [Blocks.settleRead_of_ok _ hb, Port.applyAll_cons, Port.applyAll_nil]
    have := Port.reserve_answer s.port code tag status fs h.1.1.1 hl
    simp only [State.withheld, State.ticket, this, State.answered]
  · show (f (s.ticket tag) (Work.start s.blk)).msgs = []
    rw [hw]
  · show (f (s.ticket tag) (Work.start s.blk)).posts = []
    rw [hw]

/-- A command answered from the state at its taking (R210, R211). -/
theorem State.withheld_answer (s : State) (code : Nat) (tag : Byte) (status : Status) (fs : List Byte) (h : s.OuterOk)
    (hl : runLength fs.length ≤ places code) :
    (s.withheld code tag).answer (s.ticket tag) status fs = s.answered code tag status fs := by
  have := Port.reserve_answer s.port code tag status fs h.1 hl
  simp only [State.answer, State.withheld, State.ticket, this, State.answered]

/-- A refusal has no result fields, so it fits in one place. -/
theorem runLength_nil : runLength 0 = 1 := rfl

theorem one_le_places (code : Nat) : 1 ≤ places code := by
  unfold places; split <;> omega

end Sys2Proof.Machine
end

