-- ==== Sys2Proof/Laws/Lamps.lean ====
section
/-! SUPPORT. What a recomputation of the grants and of the fan's speed can change (R118, R125): two fields of each lamp
and three of the LCU, with no report, when no dark fade runs. -/

namespace Sys2Proof.Machine

/-- A lamp once its grant has been written (R118). -/
def Lamp.granting (l : Lamp) (g : Nat) : Lamp := { l with granted := g, output := min l.output g }

@[simp] theorem Lamp.granting_fade (l : Lamp) (g : Nat) : (l.granting g).fade = l.fade := rfl

theorem Work.endFade_none (w : Work) (d : DeckId) (h : (w.st.lamp d).fade = none) : w.endFade d = w := by
  simp [Work.endFade, h]

/-- Writing a grant on a lamp without a dark fade is one change of that lamp. -/
theorem Work.setGrant_quiet (w : Work) (d : DeckId) (g : Nat) (h : (w.st.lamp d).fade = none) :
    w.setGrant d g = w.modLamp d fun l => l.granting g := by
  unfold Work.setGrant
  rw [Work.endFade_none]
  · rfl
  · simp [h]

/-- The grant that each lamp gets (R118). -/
def Work.grantOf (w : Work) (d : DeckId) : Nat := if w.st.lcu.priority = d then w.grants.1 else w.grants.2

/-- A lamp takes no more than the room it is given (R118). -/
theorem Lamp.grant_le (l : Lamp) (room : Nat) : l.grant room ≤ room := by
  unfold Lamp.grant
  repeat' split
  all_goals omega

/-- The two grants share the heat budget of the zone in force (R118). -/
theorem Work.grants_within (w : Work) : w.grants.1 + w.grants.2 ≤ w.st.lcu.zone.budget := by
  have h1 := Lamp.grant_le (w.lamp w.st.lcu.priority) w.st.lcu.zone.budget
  have h2 := Lamp.grant_le (w.lamp w.st.lcu.priority.other) (w.st.lcu.zone.budget - w.grants.1)
  simp only [Work.grants] at h2 ⊢
  omega

/-- With no dark fade, the grants and outputs of the two lamps are all that a recomputation changes. -/
theorem Work.regrant_quiet (w : Work) (h : w.st.noFade) :
    w.regrant = { w with st := { w.st with
      lampA := w.st.lampA.granting (w.grantOf .a), lampB := w.st.lampB.granting (w.grantOf .b) } } := by
  obtain ⟨ha, hb⟩ := h
  unfold Work.regrant Work.grantOf
  cases hp : w.st.lcu.priority
  · simp only [DeckId.other]
    rw [Work.setGrant_quiet w .a _ ha, Work.setGrant_quiet (w.modLamp .a _) .b _ hb]
    simp [Work.modLamp, Work.setLamp, Blocks.setLamp, Blocks.lamp]
  · simp only [DeckId.other]
    rw [Work.setGrant_quiet w .b _ hb, Work.setGrant_quiet (w.modLamp .b _) .a _ ha]
    simp [Work.modLamp, Work.setLamp, Blocks.setLamp, Blocks.lamp]

/-- Nothing completes while the ramp has not reached its target (R120). -/
theorem Work.completeRamp_running (w : Work) (d : DeckId) (h : (w.lamp d).rampDone = false) :
    w.completeRamp d = w := by
  unfold Work.completeRamp
  rw [if_neg (by rw [h]; decide)]

/-- A ramp that has reached its target becomes absent and is reported once (R120). -/
theorem Work.completeRamp_done (w : Work) (d : DeckId) (h : (w.lamp d).rampDone = true) :
    w.completeRamp d =
      let w' := (w.modLamp d fun l => { l with ramp := none }).regrant
      w'.send (.ramp d (w'.lamp d).output) := by
  unfold Work.completeRamp
  rw [if_pos h]

/-- The fan's new speed, watch and tach mark (R125, R126). -/
def Lcu.fanned (l : Lcu) (f : Fan) : Lcu :=
  match f with
  | .off => { l with fan := .off, fanWatch := none, tachSeen := false }
  | _ => { l with fan := f, fanWatch := if l.fan = .off then some Config.fanTachWatchMs else l.fanWatch }

/-- The fan's speed, watch and tach mark are all that setting the fan changes. -/
theorem Work.setFan_eq (w : Work) : w.setFan = w.modLcu fun l => l.fanned w.st.fanSpeed := by
  unfold Work.setFan Lcu.fanned
  cases w.st.fanSpeed <;> rfl

/-- What follows a change of a lamp's state, with no dark fade: grants, outputs and the fan. -/
theorem Work.lampChanged_quiet (w : Work) (h : w.st.noFade) :
    ∃ f : Fan, w.lampChanged = { w with st := { w.st with
      lampA := w.st.lampA.granting (w.grantOf .a), lampB := w.st.lampB.granting (w.grantOf .b)
      lcu := w.st.lcu.fanned f } } := by
  unfold Work.lampChanged
  rw [Work.regrant_quiet w h, Work.setFan_eq]
  exact ⟨_, rfl⟩

/-- A regrant leaves the zone, the power state and every other part of the LCU. -/
theorem Lcu.fanned_eq (l : Lcu) (f : Fan) :
    l.fanned f = { l with fan := (l.fanned f).fan, fanWatch := (l.fanned f).fanWatch, tachSeen := (l.fanned f).tachSeen } := by
  cases f <;> rfl

/-- A state that differs from `s` in grants, outputs and the fan alone (R118, R125). -/
theorem State.regranted_of (s : State) (g h : Nat) (f : Fan) :
    s.Regranted { s with blk := { s.blk with
      lampA := s.blk.lampA.granting g, lampB := s.blk.lampB.granting h, lcu := s.blk.lcu.fanned f } } := by
  unfold State.Regranted
  cases f <;> rfl

end Sys2Proof.Machine
end

