-- ==== Sys2Proof/Laws/Operations.lean ====
section
/-! SUPPORT. The operations over the whole state (requests of every source, the arbiter's commands, taking, the resets,
time): each keeps the laws of the units that face outwards. -/

namespace Sys2Proof.Machine

/-! ## Blocks written beside a run -/

theorem State.modLink_ok (s : State) (f : Link → Link) (h : s.OuterOk)
    (hf : (f s.blk.link).readHold = none ∨
      ((f s.blk.link).readHold.isSome = s.blk.link.readHold.isSome ∧ (f s.blk.link).cursor = s.blk.link.cursor)) :
    (s.modLink f).OuterOk := by
  refine ⟨h.1, h.2.1, ?_⟩
  intro hr
  rcases hf with hf | ⟨hf, hc⟩
  · simp [State.modLink, hf] at hr
  · have : (s.modLink f).blk.readHeld = s.blk.readHeld := Blocks.readHeld_congr _ _ hc rfl
    rw [this]
    exact h.2.2 (by simpa [State.modLink, hf] using hr)

theorem State.modRemote_ok (s : State) (f : Remote → Remote) (h : s.OuterOk) : (s.modRemote f).OuterOk :=
  ⟨h.1, h.2.1, fun hr => h.2.2 hr⟩

/-! ## Requests (R172) -/

theorem State.admitted_ok (s : State) (r : Request) (h : s.OuterOk) :
    ({ s with arb := (s.arb.enqueue s.blk.pres.mode r).2 } : State).OuterOk :=
  ⟨h.1, s.arb.enqueue_ok _ _ h.2.1, h.2.2⟩

theorem postCport_ok (kind : Kind) (arg : Option Nat) (t : Ticket) (s : State) (h : s.OuterOk) :
    (postCport kind arg t s).OuterOk := by
  have h' := s.admitted_ok { source := .cport, kind := kind, arg := arg, ticket := some t } h
  unfold postCport
  dsimp only
  split
  · exact State.answer_ok _ _ _ _ h'
  · exact h'

theorem State.postRemote_ok (s : State) (key : Key) (kind : Kind) (arg : Option Nat) (input : Option HeldInput)
    (h : s.OuterOk) : (s.postRemote key kind arg input).OuterOk := by
  have h' := s.admitted_ok { source := .remote, kind := kind, arg := arg, ticket := none } h
  unfold State.postRemote
  dsimp only
  split
  · exact h'
  · exact State.run_ok _ _ h'
  · split
    · exact h'
    · exact State.run_ok _ _ (State.modRemote_ok _ _ h')

theorem State.postLink_ok (s : State) (kind : Kind) (arg : Option Nat) (h : s.OuterOk) : (s.postLink kind arg).OuterOk := by
  have h' := s.admitted_ok { source := .link, kind := kind, arg := arg, ticket := none } h
  unfold State.postLink
  dsimp only
  split
  · exact State.modLink_ok _ _ h' (.inr ⟨rfl, rfl⟩)
  · exact State.run_ok _ _ (State.modLink_ok _ _ h' (.inr ⟨rfl, rfl⟩))
  · exact h'

/-! ## The hand remote -/

theorem State.remotePause_ok (s : State) (h : s.OuterOk) : s.remotePause.OuterOk := by
  unfold State.remotePause
  dsimp only
  split <;> exact State.run_ok _ _ h

theorem State.remoteGo_ok (s : State) (h : s.OuterOk) : s.remoteGo.OuterOk := by
  unfold State.remoteGo
  dsimp only
  split
  · exact State.postRemote_ok _ _ _ _ _ (State.modRemote_ok _ _ h)
  · exact State.run_ok _ _ (State.modRemote_ok _ _ h)

theorem State.keyAction_ok (s : State) (key : Key) (input : Option HeldInput) (h : s.OuterOk) : (s.keyAction key input).OuterOk := by
  unfold State.keyAction
  split
  · exact State.postRemote_ok _ _ _ _ _ (State.modRemote_ok _ _ h)
  · exact State.postRemote_ok _ _ _ _ _ (State.modRemote_ok _ _ h)
  · exact State.postRemote_ok _ _ _ _ _ (State.modRemote_ok _ _ h)
  · exact State.remotePause_ok _ (State.modRemote_ok _ _ h)
  · exact State.modRemote_ok _ _ h
  · exact State.remoteGo_ok _ h
  · exact State.modRemote_ok _ _ h
  · exact h

theorem State.press_ok (s : State) (key : Key) (input : Option HeldInput) (h : s.OuterOk) : (s.press key input).OuterOk := by
  unfold State.press
  dsimp only
  split
  · refine State.run_ok _ _ ?_
    split
    · exact State.modRemote_ok _ _ h
    · exact h
  · refine State.keyAction_ok _ _ _ ?_
    split
    · exact State.modRemote_ok _ _ h
    · exact h

theorem State.irFirst_ok (s : State) (channel : Nat) (key : Key) (h : s.OuterOk) : (s.irFirst channel key).OuterOk := by
  unfold State.irFirst
  split
  · exact State.press_ok _ _ _ (State.modRemote_ok _ _ h)
  · exact h

theorem State.keyRepeat_ok (s : State) (i : HeldInput) (h : s.OuterOk) : (s.keyRepeat i).OuterOk := by
  unfold State.keyRepeat
  split
  · split
    · dsimp only
      split
      · exact State.postRemote_ok _ _ _ _ _ (State.modRemote_ok _ _ h)
      · exact State.postRemote_ok _ _ _ _ _ (State.modRemote_ok _ _ h)
      · exact State.modRemote_ok _ _ h
    · exact h
  · exact h

theorem State.linePress_ok (s : State) (l : Line) (h : s.OuterOk) : (s.linePress l).OuterOk := by
  unfold State.linePress
  dsimp only
  split
  · exact State.modRemote_ok _ _ h
  · split
    · exact State.press_ok _ _ _ (State.modRemote_ok _ _ h)
    · exact State.press_ok _ _ _ (State.modRemote_ok _ _ h)
    · exact State.press_ok _ _ _ (State.modRemote_ok _ _ (State.modRemote_ok _ _ h))

/-! ## Frames of the link at their STOP -/

theorem State.atStop_ok (s : State) (code : Nat) (f : List Byte → State → State) (h : s.OuterOk)
    (hf : ∀ args t, t.OuterOk → (f args t).OuterOk) : (s.atStop code f).OuterOk := by
  unfold State.atStop
  split
  · split
    · exact hf _ _ (State.modLink_ok _ _ h (.inr ⟨rfl, rfl⟩))
    · exact h
  · exact h

theorem State.linkDark_ok (s : State) (h : s.OuterOk) : s.linkDark.OuterOk := by
  unfold State.linkDark
  split
  · split
    · exact State.atStop_ok _ _ _ h fun _ t ht => State.postLink_ok t _ _ ht
    · exact h
  · exact h

theorem State.selectRead_ok (s : State) (h : s.OuterOk) : s.selectRead.OuterOk := by
  unfold State.selectRead
  split
  · split
    · exact State.atStop_ok _ _ _ h fun _ t ht => State.modLink_ok t _ ht (.inr ⟨rfl, rfl⟩)
    · exact h
  · exact h

theorem State.cursorSet_ok (s : State) (h : s.OuterOk) : s.cursorSet.OuterOk :=
  State.atStop_ok _ _ _ h fun _ t ht => State.run_ok _ t ht

theorem State.cursorWrite_ok (s : State) (h : s.OuterOk) : s.cursorWrite.OuterOk :=
  State.atStop_ok _ _ _ h fun _ t ht => State.run_ok _ t ht

theorem Link.discardFrame_keeps (l : Link) (b : Bool) :
    (l.discardFrame b).readHold = l.readHold ∧ (l.discardFrame b).cursor = l.cursor := by
  unfold Link.discardFrame
  split
  · exact ⟨rfl, rfl⟩
  · dsimp only
    split
    · exact ⟨rfl, rfl⟩
    · split
      · exact ⟨rfl, rfl⟩
      · exact ⟨rfl, rfl⟩
      · exact ⟨rfl, rfl⟩
      · split
        · exact ⟨rfl, rfl⟩
        · split <;> exact ⟨rfl, rfl⟩

theorem Link.argumentByte_keeps (l : Link) (v : Byte) :
    (l.argumentByte v).readHold = l.readHold ∧ (l.argumentByte v).cursor = l.cursor := by
  unfold Link.argumentByte
  split
  · exact ⟨rfl, rfl⟩
  · split
    · exact ⟨rfl, rfl⟩
    · split <;> exact ⟨rfl, rfl⟩
    · exact ⟨rfl, rfl⟩

theorem Link.addressByte_readHold (l : Link) (a : Nat) : (l.addressByte a).readHold = none := by
  unfold Link.addressByte
  dsimp only
  split <;> rfl

theorem Link.holdTimeout_readHold (l : Link) : l.holdTimeout.readHold = none := by
  unfold Link.holdTimeout
  split
  · rfl
  · rename_i h; simpa using h

theorem Link.abandonRead_readHold (l : Link) : l.abandonRead.readHold = none := by
  unfold Link.abandonRead
  split
  · rfl
  · rename_i h; simpa using h

/-! ## The arbiter's commands and grant opportunities -/

theorem State.activate_ok (s : State) (h : s.OuterOk) : s.activate.OuterOk :=
  ⟨Port.applyAll_ok _ _ h.1, s.arb.activated_ok h.2.1, h.2.2⟩

theorem State.grantOpportunity_ok (s : State) (h : s.OuterOk) : s.grantOpportunity.OuterOk := by
  unfold State.grantOpportunity
  split
  · dsimp only
    have h' := s.activate_ok h
    exact State.run_ok _ _ ⟨h'.1, Arbiter.scan_ok _ _ _ _ h'.2.1, h'.2.2⟩
  · exact h

theorem State.activateIfOpen_ok (s : State) (h : s.OuterOk) : s.activateIfOpen.OuterOk := by
  unfold State.activateIfOpen
  split
  · exact s.activate.grantOpportunity_ok (s.activate_ok h)
  · exact h

theorem cmdSetPhases_ok (t : Ticket) (phases : List Byte) (s : State) (hp : phases.length = 16) (h : s.OuterOk) :
    (cmdSetPhases t phases s).OuterOk := by
  unfold cmdSetPhases
  split
  · exact State.answer_ok _ _ _ _ h
  · split
    · exact State.answer_ok _ _ _ _ h
    · rename_i table ht
      split
      · exact State.answer_ok _ _ _ _ h
      · rename_i hc
        have hlen : table.length = 16 := by rw [allSome_length _ _ ht, List.length_map, hp]
        have hmem : some Source.cport ∈ table := by simpa using hc
        refine State.activateIfOpen_ok _ ?_
        have key : ∀ s' : State, s'.OuterOk → ({ s' with arb := { s'.arb with
            pendingPhases := some { table := table, ticket := t } } } : State).OuterOk := by
          rintro s' ⟨hp', ⟨a1, a2, a3, a4, b1, b2, b3, b4, c, d, _, e⟩, hb⟩
          refine ⟨hp', ⟨a1, a2, a3, a4, b1, b2, b3, b4, c, d, ?_, e⟩, hb⟩
          intro p hpp
          have : { table := table, ticket := t } = p := by simpa using hpp
          subst this
          exact ⟨hlen, hmem⟩
        refine key _ ?_
        split
        · exact State.answer_ok _ _ _ _ h
        · exact h

theorem AuthorityTable.setRow_good (t : AuthorityTable) (src : Source) (row : Authority) (h : authorityGood t)
    (hs : src ≠ .cport) (he : row.edit = true → src = .link) : authorityGood (t.setRow src row) := by
  obtain ⟨h1, h2, h3⟩ := h
  have hrow : src ≠ .link → row.edit = false := fun hne => by
    cases hr : row.edit with
    | false => rfl
    | true => exact absurd (he hr) hne
  cases src with
  | cport => exact absurd rfl hs
  | link => exact ⟨h1, h2, h3⟩
  | remote => exact ⟨h1, hrow (by decide), h3⟩
  | cue => exact ⟨h1, h2, hrow (by decide)⟩

theorem cmdSetAuthority_ok (t : Ticket) (a b c d e : Byte) (s : State) (h : s.OuterOk) :
    (cmdSetAuthority t a b c d e s).OuterOk := by
  unfold cmdSetAuthority
  split
  · exact State.answer_ok _ _ _ _ h
  · split
    · rename_i src m l ed p _ _ _ _ _
      split
      · exact State.answer_ok _ _ _ _ h
      · rename_i hn
        have hs : src ≠ .cport := fun hc => hn (.inl hc)
        have he : ed = true → src = .link := fun hc => by
          by_contra hl
          exact hn (.inr ⟨hc, hl⟩)
        obtain ⟨hp, ⟨a1, a2, a3, a4, b1, b2, b3, b4, ⟨c1, c2⟩, d1, e1, e2⟩, hb⟩ := h
        refine State.activateIfOpen_ok _ ⟨hp, ⟨a1, a2, a3, a4, b1, b2, b3, b4, ⟨c1, c2⟩, d1, e1, ?_⟩, hb⟩
        intro q hq
        simp only [Option.mem_def, Option.some.injEq] at hq
        subst hq
        refine AuthorityTable.setRow_good _ _ _ ?_ hs he
        split
        · rename_i x hx; exact e2 x hx
        · exact c2
    · exact State.answer_ok _ _ _ _ h

theorem cmdSetRangeLock_ok (t : Ticket) (a b c : Byte) (s : State) (h : s.OuterOk) : (cmdSetRangeLock t a b c s).OuterOk := by
  unfold cmdSetRangeLock
  split
  · exact State.answer_ok _ _ _ _ h
  · split
    · exact State.answer_ok _ _ _ _ h
    · refine State.activateIfOpen_ok _ ?_
      have h' : ∀ s' : State, s'.OuterOk → ∀ l, ({ s' with arb := { s'.arb with pendingLock := l } } : State).OuterOk :=
        fun s' hs l => ⟨hs.1, hs.2.1, hs.2.2⟩
      refine h' _ ?_ _
      split
      · exact State.answer_ok _ _ _ _ h
      · exact h

theorem cmdSetLockHold_ok (t : Ticket) (on : Byte) (s : State) (h : s.OuterOk) : (cmdSetLockHold t on s).OuterOk := by
  unfold cmdSetLockHold
  split
  · exact State.answer_ok _ _ _ _ h
  · split
    · exact State.answer_ok _ _ _ _ h
    · exact State.answer_ok _ _ _ _ ⟨h.1, h.2.1, h.2.2⟩

/-! ## Commands from the ring -/

theorem cmdGoto_ok (frame : Nat) (t : Ticket) (s : State) (h : s.OuterOk) : (cmdGoto frame t s).OuterOk := by
  unfold cmdGoto
  split
  · exact State.answer_ok _ _ _ _ h
  · exact postCport_ok _ _ _ _ h

theorem cmdDark_ok (arg : Byte) (t : Ticket) (s : State) (h : s.OuterOk) : (cmdDark arg t s).OuterOk := by
  unfold cmdDark
  split
  · exact postCport_ok _ _ _ _ h
  · exact State.answer_ok _ _ _ _ h

theorem cmdCommandStatus_ok (tag : Byte) (t : Ticket) (s : State) (h : s.OuterOk) : (cmdCommandStatus tag t s).OuterOk := by
  unfold cmdCommandStatus
  split
  · exact State.answer_ok _ _ _ _ h
  · split <;> exact State.answer_ok _ _ _ _ h

theorem cmdAbort_ok (tag : Byte) (t : Ticket) (s : State) (h : s.OuterOk) : (cmdAbort tag t s).OuterOk := by
  unfold cmdAbort
  split
  · exact State.answer_ok _ _ _ _ h
  · dsimp only
    refine State.answer_ok _ _ _ _ ?_
    split
    · exact State.answer_ok _ _ _ _ ⟨h.1, s.arb.removeCport_ok _ h.2.1, h.2.2⟩
    · exact State.run_ok _ _ h

theorem runCode_ok (r : Record) (t : Ticket) (s : State) (hr : r.length = 32) (h : s.OuterOk) : (runCode r t s).OuterOk := by
  unfold runCode
  dsimp only
  split <;> first
    | exact State.run_ok _ _ h
    | exact postCport_ok _ _ _ _ h
    | exact cmdGoto_ok _ _ _ h
    | exact cmdDark_ok _ _ _ h
    | exact cmdSetPhases_ok _ _ _ (by simp [hr]) h
    | exact cmdSetAuthority_ok _ _ _ _ _ _ _ h
    | exact cmdSetRangeLock_ok _ _ _ _ _ h
    | exact cmdSetLockHold_ok _ _ _ h
    | exact cmdAbort_ok _ _ _ h
    | exact cmdCommandStatus_ok _ _ _ h
    | exact State.answer_ok _ _ _ _ h

theorem State.takeCommand_ok (s : State) (h : s.OuterOk) : s.takeCommand.OuterOk := by
  unfold State.takeCommand
  split
  · rename_i hd
    rw [State.takeDue, Bool.and_eq_true, State.takeable, Bool.and_eq_true] at hd
    refine runCode_ok _ _ _ (s.port.takeSlot_length h.1) ⟨?_, h.2⟩
    exact Port.reserve_ok _ _ _ hd.2.1 (s.port.releaseSlot_ok h.1)
  · exact h

/-! ## Resets and time -/

theorem State.readPortStatus_ok (s : State) (h : s.OuterOk) : s.readPortStatus.OuterOk := ⟨h.1, h.2⟩

theorem State.partReset_ok (s : State) (h : s.OuterOk) : s.partReset.OuterOk :=
  State.run_ok _ _ ⟨s.port.clear_ok h.1, s.arb.partReset_ok h.2.1, fun hr => by
    simp [Blocks.partReset, Link.partReset] at hr⟩

theorem State.powerOnReset_ok (s : State) (h : s.OuterOk) : s.powerOnReset.OuterOk :=
  ⟨s.port.clear_ok h.1, Arbiter.reset_ok _, fun hr => by
    simp [State.powerOnReset, Blocks.powerOn, Link.reset] at hr⟩

theorem State.tick_ok (s : State) (h : s.OuterOk) : s.tick.OuterOk := by
  refine ⟨h.1, h.2.1, ?_⟩
  intro hr
  have he : s.tick.blk.readHeld = s.blk.readHeld := by
    refine Blocks.readHeld_congr _ _ rfl ?_
    show s.blk.pres.tick.edit = s.blk.pres.edit
    unfold Pres.tick
    split <;> rfl
  rw [he]
  exact h.2.2 (by simpa [State.tick, Blocks.tick, Link.tick] using hr)

end Sys2Proof.Machine
end

