-- ==== Sys2Proof/Laws/Walks.lean ====
section
/-! SUPPORT. What a successor walk gives (R79, R80): the frame that `Pres.firstOn` names. -/

namespace Sys2Proof.Machine

/-- A walk of SKIP frames that ends at one without SKIP comes to no place twice on the way. -/
theorem walk_places_differ {p : Pres} {next : Nat → Nat} {k i j : Nat} (hn : p.skips (next^[k + 1] p.current) = false)
    (hs : ∀ i < k, p.skips (next^[i + 1] p.current) = true) (hij : i < j) (hj : j ≤ k) :
    next^[i] p.current ≠ next^[j] p.current := by
  intro h
  have hm : next^[k + 1] p.current = next^[i + (k + 1 - j)] p.current := by
    conv_lhs => rw [show k + 1 = (k + 1 - j) + j by omega, Function.iterate_add_apply]
    rw [show i + (k + 1 - j) = (k + 1 - j) + i by omega, Function.iterate_add_apply, h]
  have hk := hs (i + (k + 1 - j) - 1) (by omega)
  rw [show i + (k + 1 - j) - 1 + 1 = i + (k + 1 - j) by omega, ← hm, hn] at hk
  exact Bool.noConfusion hk

/-- A walk of SKIP frames in a table is no longer than the table. -/
theorem walk_short {p : Pres} {next : Nat → Nat} {k : Nat} (hn : p.skips (next^[k + 1] p.current) = false)
    (hs : ∀ i < k, 1 ≤ next^[i + 1] p.current ∧ next^[i + 1] p.current ≤ p.frames.length ∧
      p.skips (next^[i + 1] p.current) = true) : k ≤ p.frames.length := by
  have h := Finset.card_le_card_of_injOn (s := Finset.range k) (t := Finset.Icc 1 p.frames.length)
    (fun i => next^[i + 1] p.current)
    (fun i hi => by
      have := hs i (by simpa using hi)
      exact Finset.mem_coe.2 (Finset.mem_Icc.2 ⟨this.1, this.2.1⟩))
    (fun i hi j hj e => by
      have hi : i < k := by simpa using hi
      have hj : j < k := by simpa using hj
      by_contra hne
      rcases Nat.lt_or_gt_of_ne hne with hlt | hlt
      · exact walk_places_differ hn (fun i h => (hs i h).2.2) (by omega : i + 1 < j + 1) (by omega) e
      · exact walk_places_differ hn (fun i h => (hs i h).2.2) (by omega : j + 1 < i + 1) (by omega) e.symm)
  simpa using h

/-- The rest of a walk that stands at its place `j`. -/
theorem walk_rest {p : Pres} {next : Nat → Nat} {k : Nat} (h1 : 1 ≤ next^[k + 1] p.current)
    (h2 : next^[k + 1] p.current ≤ p.frames.length) (hn : p.skips (next^[k + 1] p.current) = false)
    (hs : ∀ i < k, 1 ≤ next^[i + 1] p.current ∧ next^[i + 1] p.current ≤ p.frames.length ∧
      p.skips (next^[i + 1] p.current) = true) :
    ∀ (d j fuel : Nat) (visited : List Nat), j + d = k → d < fuel →
      (∀ y, y ∈ visited ↔ ∃ i ≤ j, next^[i] p.current = y) →
      p.walk next p.current fuel (next^[j] p.current) visited = next^[k + 1] p.current := by
  intro d
  induction d with
  | zero =>
    rintro j (_ | fuel) visited hj hf hv
    · omega
    · obtain rfl : j = k := by omega
      have hstep : next (next^[j] p.current) = next^[j + 1] p.current := (Function.iterate_succ_apply' ..).symm
      simp only [Pres.walk, hstep]
      rw [if_neg (by simp only [Pres.count]; omega)]
      by_cases hc : next^[j + 1] p.current ∈ visited
      · obtain ⟨i, hi, he⟩ := (hv _).1 hc
        rcases i with _ | i
        · have he : next^[j + 1] p.current = p.current := he.symm
          rw [if_pos (by simpa only [List.contains_eq_mem, decide_eq_true_eq] using hc), if_pos ⟨he, by rw [hn]; rfl⟩]
        · have := (hs i (by omega)).2.2
          rw [he, hn] at this
          exact Bool.noConfusion this
      · simp only [List.contains_eq_mem, hc, hn, decide_false, Bool.false_eq_true, if_false]
  | succ d ih =>
    rintro j (_ | fuel) visited hj hf hv
    · omega
    · have hstep : next (next^[j] p.current) = next^[j + 1] p.current := (Function.iterate_succ_apply' ..).symm
      obtain ⟨g1, g2, g3⟩ := hs j (by omega)
      have hc : next^[j + 1] p.current ∉ visited := fun h => by
        obtain ⟨i, hi, he⟩ := (hv _).1 h
        exact walk_places_differ hn (fun i h => (hs i h).2.2) (by omega : i < j + 1) (by omega) he
      simp only [Pres.walk, hstep]
      rw [if_neg (by simp only [Pres.count]; omega)]
      simp only [List.contains_eq_mem, hc, g3, decide_false, Bool.false_eq_true, if_false, if_true]
      refine ih (j + 1) fuel _ (by omega) (by omega) fun y => ?_
      simp only [List.mem_cons, hv]
      constructor
      · rintro (rfl | ⟨i, hi, he⟩)
        · exact ⟨j + 1, Nat.le_refl _, rfl⟩
        · exact ⟨i, by omega, he⟩
      · rintro ⟨i, hi, he⟩
        rcases Nat.lt_or_ge i (j + 1) with h | h
        · exact Or.inr ⟨i, by omega, he⟩
        · obtain rfl : i = j + 1 := by omega
          exact Or.inl he.symm

/-- A walk ends at the frame that `firstOn` names. -/
theorem Pres.walk_of_firstOn {p : Pres} {next : Nat → Nat} {n : Nat} (h : p.firstOn next n) :
    p.walk next p.current (p.count + 2) p.current [p.current] = n := by
  obtain ⟨k, rfl, h1, h2, hn, hs⟩ := h
  have hk := walk_short hn hs
  refine walk_rest h1 h2 hn hs k 0 _ _ (by omega) (by simp only [Pres.count]; omega) fun y => ?_
  simp [eq_comm]

/-- R79. -/
theorem Pres.advanceFrom_of_firstOn {p : Pres} {n : Nat} (h : p.firstOn p.after n) : p.advanceFrom p.current = n :=
  Pres.walk_of_firstOn h

/-- R80. -/
theorem Pres.reverseFrom_of_firstOn {p : Pres} {n : Nat} (h : p.firstOn p.before n) : p.reverseFrom p.current = n :=
  Pres.walk_of_firstOn h

end Sys2Proof.Machine
end

