-- ==== Sys2Proof/Tests/Slice0.lean ====
section
/-! SUPPORT. The model's own tests: what the well-formedness checks refuse, values worked out in the manual, and for
every statement with hypotheses a concrete state that meets them, each clause at the bounds of its ranges. -/

namespace Sys2Proof.Tests

set_option Elab.async false
set_option synthInstance.maxSize 4000
set_option synthInstance.maxHeartbeats 400000

open Sys2Proof Sys2Proof.Machine

/-! ## Helpers -/

/-- The state after a command, if there is one, meets a test. -/
def after (o : Host.Outcome State Fault Refusal) (p : State → Bool) : Bool :=
  match o with
  | .next t => p t
  | _ => false

/-- The part after a power-on reset. -/
def r0 : State := State.reset

def State.setPort (s : State) (f : Port → Port) : State := { s with port := f s.port }

def State.setArb (s : State) (f : Arbiter → Arbiter) : State := { s with arb := f s.arb }

/-- A homed deck with a SHORT tray, IDLE at a position. -/
def homed (g : Gate) (p : Nat) : Deck :=
  { Deck.reset with
    state := .idle g, position := some p, latchClosed := true, map := some (freshMap .short), seated := true }

/-- The same tray with an operation at work. -/
def working (op : Operation) (p : Option Nat) : Deck := { homed .empty 0 with state := .busy op, position := p }

def frame (d : DeckId) (slot : Nat) : Frame :=
  { deck := d, slot := slot, cls := .default, level := 100, hold := 30, skip := false, tapeHold := false }

/-- Two frames, one on each deck, in ALTERNATE pairing. -/
def twoFrames (p : Pres) : Pres := { p with frames := [frame .a 1, frame .b 2] }

/-- The show stands at frame 1, on screen from deck A. -/
def showing (p : Pres) : Pres := { twoFrames p with current := 1, screen := some { deck := .a, slot := 1 } }

def ticket0 : Ticket := { id := 0, tag := 5 }

/-- A command has been taken and its answer is withheld. -/
def owing (code : Nat) (s : State) : State :=
  State.setPort s fun p =>
    { p with unanswered := [{ ticket := ticket0, code := code, places := places code }], nextId := 1 }

/-! ## Well-formedness -/

theorem test_wf_longWrite : WellFormed (.writeCmdSlot 0 (List.replicate 33 0)) = false := by decide

theorem test_wf_shortPhases : WellFormed (.setPhases 0 (List.replicate 15 0)) = false := by decide

theorem test_wf_hotReading : WellFormed (.temperatureReading 0 151) = false := by decide

theorem test_wf_bounds : WellFormed (.writeCmdSlot 0 (List.replicate 32 0)) = true ∧
    WellFormed (.setPhases 0 (List.replicate 16 0)) = true ∧ WellFormed (.temperatureReading 2 150) = true := by decide

theorem test_longWrite_faults : exec (.writeCmdSlot 0 (List.replicate 33 0)) r0 = .fault .illFormed := by rfl

theorem test_shortPhases_faults : exec (.setPhases 0 (List.replicate 15 0)) r0 = .fault .illFormed := by rfl

theorem test_hotReading_faults : exec (.temperatureReading 0 151) r0 = .fault .illFormed := by rfl

/-! ## Values worked out in the manual -/

/-- 11.3: the checks of the two example words. -/
theorem test_cueCheck : cueCheck 1 0 = 87 ∧ cueCheck 3 12 = 183 ∧
    wordKind 0x100557 = 1 ∧ wordArg 0x100557 = 0 ∧ wordSeq 0x100557 = 5 ∧ wordCheck 0x100557 = 87 ∧
    wordKind 0x30C3B7 = 3 ∧ wordArg 0x30C3B7 = 12 ∧ wordSeq 0x30C3B7 = 3 ∧ wordCheck 0x30C3B7 = 183 := by decide

/-- The encoder's words for the same two cues are the manual's. -/
theorem test_encodeWord : encodeWord 1 0 5 = 0x100557 ∧ encodeWord 3 12 3 = 0x30C3B7 := by decide +kernel

/-- The first continuation of a response is the second record of its run (R218), and the last bytes stand in it. -/
theorem test_responseRun : (responseRun 0x39 7 .ok (List.replicate 30 9)).map (fun r => (r.take 6, r.length)) =
    [([1, 0x39, 7, 0, 9, 9], 32), ([3, 0x39, 7, 2, 9, 9], 32)] := by decide

/-- READ_RSP_SLOT shifts the port summary out first, then 00h, then the slot (R208). -/
theorem test_readRspSlot : Port.reset.readRspSlot 3 = Port.reset.summary :: 0 :: List.replicate 32 255 ∧
    ({ Port.reset with rsp := [{ bytes := List.replicate 32 7, partOwned := false, filled := true }] } : Port).readRspSlot 0 =
      0x39 :: 0 :: List.replicate 32 7 := by decide

/-- After a power-on reset every command slot and every response slot is the host's. -/
theorem test_summary : r0.port.hostCmdSlots = 8 ∧ r0.port.filledSlots = 0 ∧ r0.port.out = [] := by decide

/-! ## Hypotheses met -/

theorem test_met_StepRunsFrontCommand : ({ r0 with pending := [.giveCmd] } : State).pending = .giveCmd :: [] := by rfl

/-- Bytes that spell a command of a given code. -/
def spelled (code : Byte) : Record := [code, 7, 1] ++ List.replicate 29 0

/-- The slot at the take pointer has been given. -/
def given (code : Byte) : State := State.setPort r0 fun p =>
  { p with cmd := { bytes := spelled code, partOwned := true } :: p.cmd.drop 1, give := 1, lastNotify := true }

theorem test_met_EmptyQueueStep : r0.pending = [] ∧ r0.dueSteps = [] ∧ (given 0x71).pending = [] ∧
    (given 0x71).dueSteps = [.takeCommand] := by decide +kernel

theorem test_met_StepKeepsGood : r0.Ok ∧ step r0 = .next r0.tick := ⟨by decide +kernel, by rfl⟩

theorem test_met_PortTransactions_give : r0.port.cmd[r0.port.give.val]? = some { bytes := zeroRecord, partOwned := false } := by rfl

theorem test_met_PortTransactions_write :
    r0.Ok ∧ r0.port.cmd[(0 : Byte).toNat]? = some { bytes := zeroRecord, partOwned := false } ∧
    r0.port.cmd[(7 : Byte).toNat]? = some { bytes := zeroRecord, partOwned := false } ∧ zeroRecord.length = 32 ∧
    (given 0x71).Ok ∧ (given 0x71).port.cmd[(0 : Byte).toNat]? = some { bytes := spelled 0x71, partOwned := true } ∧
    8 ≤ (8 : Byte).toNat ∧ (spelled 0).length ≤ 32 ∧ (zeroRecord.drop 1).length < 32 := by
  decide +kernel

theorem test_met_PortTransactions_return :
    r0.port.rsp[r0.port.ret.val]? = some { bytes := zeroRecord, partOwned := false, filled := false } := by rfl

/-- A record waits in the outgoing queue, and slot 0 of the response ring is the part's or not. -/
def waiting (mine : Bool) (r : Record) : State := State.setPort r0 fun p =>
  { p with out := [r], rsp := { bytes := zeroRecord, partOwned := mine, filled := false } :: p.rsp.drop 1 }

theorem test_met_RecordToResponseRing :
    (waiting true (spelled 2)).port.out = spelled 2 :: [] ∧
    (waiting true (spelled 2)).port.rsp[0]? = some { bytes := zeroRecord, partOwned := true, filled := false } ∧
    (waiting false (spelled 1)).port.rsp[0]? = some { bytes := zeroRecord, partOwned := false, filled := false } := by
  decide +kernel

theorem test_met_TakeCommand :
    (given 0x71).Ok ∧ (given 0x71).port.takeSlot.partOwned = true ∧
    (given 0x71).takeable (slotByte (given 0x71).port.takeSlot.bytes 0).toNat = true ∧
    ringCommand (given 0x71).port.takeSlot.bytes = some (.commandStatus 7 0) ∧
    (given 0xFF).Ok ∧ (given 0xFF).takeable (slotByte (given 0xFF).port.takeSlot.bytes 0).toNat = true ∧
    ringCommand (given 0xFF).port.takeSlot.bytes = none ∧ r0.port.takeSlot.partOwned = false ∧
    (State.setPort (given 0x10) fun p => { p with out := List.replicate 24 zeroRecord }).Ok ∧
    (State.setPort (given 0x10) fun p => { p with out := List.replicate 24 zeroRecord }).takeable 0x10 = false := by
  decide +kernel

/-- A CHANGE to slot 1 ordered by the presentation controller. -/
def change (phase : Phase) (drive : Option Direction) (watch : Option Nat) : Operation :=
  { Operation.new .change 1 .presentation false with phase := phase, drive := drive, watch := watch }

/-- Deck A for a part reset, in each of its states, with the gate sensor made or clear. -/
def resetDecks : List Deck := [true, false].flatMap fun g =>
  [{ Deck.reset with gateMade := g }, { homed .empty 5 with gateMade := g }, { homed (.loaded 5) 5 with gateMade := g },
    { homed .empty 0 with state := .unhomed 7, position := none, gateMade := g },
    { homed .empty 5 with state := .fault .jam, gateMade := g },
    { homed .empty 0 with state := .fault .index, position := none, gateMade := g },
    { working (change .lift none (some 9)) (some 5) with gateMade := g },
    { working (change .drop none (some 9)) (some 1) with gateMade := g },
    { working (change .settle none (some 9)) (some 1) with gateMade := g },
    { working (change .rotate (some .forward) (some 9)) (some 5) with gateMade := g },
    { working (change .rotate none none) (some 1) with gateMade := g }]

theorem test_met_PartReset :
    (∀ x ∈ resetDecks, (r0.setDeck .a fun _ => x).Ok) ∧ r0.blk.lampA.fade = none ∧ r0.blk.lampB.fade = none := by
  decide +kernel

/-- A jammed deck keeps its position, and a LIFT runs out with its watch. -/
theorem test_partReset :
    after (exec .partReset (r0.setDeck .a fun _ => { homed .empty 5 with state := .fault .jam })) (fun t =>
      t.blk.deckA.state == .fault .jam && t.blk.deckA.position == some 5) = true ∧
    after (exec .partReset (r0.setDeck .a fun _ => working (change .lift none (some 9)) (some 5))) (fun t =>
      (t.blk.deckA.op?.map fun op => (op.phase, op.watch, op.resetting)) == some (.lift, some 9, true)) = true := by
  decide +kernel

/-- An ADVANCE of the host waits in the CPORT queue. -/
def queuedAdvance : State := State.setArb (owing 0x30 r0) fun a =>
  { a with cport := [{ source := .cport, kind := .advance, arg := none, ticket := some ticket0 }] }

theorem test_met_CommandStatus_Abort :
    r0.Takes 0x71 ∧ r0.Takes 0x70 ∧ (r0.port.unanswered.find? fun x => x.ticket.tag == 5) = none ∧
    queuedAdvance.Takes 0x71 ∧ queuedAdvance.Takes 0x70 ∧
    (queuedAdvance.port.unanswered.find? fun x => x.ticket.tag == 5) =
      some { ticket := ticket0, code := 0x30, places := places 0x30 } ∧
    queuedAdvance.queuePlace 0 = some 1 ∧ (owing 0x50 r0).Takes 0x71 ∧ (owing 0x50 r0).queuePlace 0 = none := by
  decide +kernel

/-- A transition to frame 2 of class 2. -/
def trans (stand : Stand) (serving : Option DeckId) : Transition :=
  { target := 2, cls := 2, stand := stand, excludedA := none, excludedB := none, serving := serving, reselected := false
    tookOver := false, past := false, lampLost := false, behindStop := false }

/-- A DECK_ command of the host is at work on deck A. -/
def deckCommand (code : Nat) (kind : OpKind) (f : Operation → Operation) : State :=
  (owing code r0).setDeck .a fun _ => working (f (Operation.new kind 0 (.host ticket0) false)) (some 0)

theorem test_met_Abort_deck :
    (∀ x ∈ [(0x20, OpKind.home, Phase.drop), (0x21, .census, .scan), (0x22, .release, .rotate),
        (0x22, .release, .unlatched)],
      let s := deckCommand x.1 x.2.1 fun op => { op with phase := x.2.2 }
      s.Takes 0x70 ∧ (s.port.unanswered.find? fun y => y.ticket.tag == 5) =
        some { ticket := ticket0, code := x.1, places := places x.1 } ∧ s.queuePlace 0 = none ∧
      (s.blk.deckA.runsFor 0).map (fun op => (op.kind, op.phase)) = some x.2 ∧ s.blk.deckB.runsFor 0 = none) ∧
    (let s := deckCommand 0x22 .home fun op => { op with
       phase := .seekIndex, requester := .internal
       suspended := some { kind := .release, target := 0, requester := .host ticket0, stage := 0 } }
     s.Takes 0x70 ∧ (s.blk.deckA.runsFor 0).map (fun op => op.suspended.map fun y => y.kind) = some (some .release)) := by
  decide +kernel

/-- A GOTO of frame 2 is granted, and the show stands at frame 1, or nothing is presented. -/
def granted2 (f : Pres → Pres) : State := (owing 0x32 r0).setPres fun p => f { showing p with
  granted := some { source := .cport, kind := .goto, arg := some 2, ticket := some ticket0 } }

/-- What the clauses on a granted request ask of each state. -/
def abortable (s : State) : Bool :=
  decide (s.Takes 0x70 ∧ s.queuePlace 0 = none ∧ s.blk.deckA.runsFor 0 = none ∧ s.blk.deckB.runsFor 0 = none) &&
    (s.port.unanswered.find? fun y => y.ticket.tag == 5) ==
      some { ticket := ticket0, code := 0x32, places := places 0x32 } &&
    s.blk.pres.granted.any fun r => r.source == .cport && optTicketIs r.ticket 0

theorem test_met_Abort_granted :
    abortable (granted2 id) = true ∧
    abortable (granted2 fun p => { p with transition := some { trans .fadeIn (some .a) with past := true } }) = true ∧
    (let s := (granted2 fun p => { p with current := 0, screen := none, transition := some (trans .pending (some .b)) }).setDeck
       .b fun _ => working { Operation.new .change 2 .presentation false with phase := .drop } (some 2)
     abortable s = true ∧ s.blk.pres.frozen = false ∧ s.blk.pres.commitDeferred = false ∧ s.blk.pres.current = 0 ∧
     s.blk.pres.stopped .b = false ∧ s.blk.deckB.changing = true) ∧
    (let s := (granted2 fun p => { p with transition := some (trans .fadeOut (some .a)) }).setLamp .a fun l => { l with
       state := .lit, inhibit := none, granted := 50, output := 50 }
     abortable s = true ∧ s.blk.noFade ∧ s.blk.lampA.claim = false ∧ s.blk.lcu.priority = .a ∧
     s.blk.pres.frame? s.blk.pres.current = some (frame .a 1) ∧ s.blk.lampA.output ≠ 100) ∧
    (∀ op ∈ [{ change .lift none (some 9) with target := 2 }, { change .rotate (some .forward) (some 9) with target := 63 }],
      let s := (granted2 fun p => { p with transition := some (trans .change (some .a)) }).setDeck .a fun _ =>
        working op (some 1)
      abortable s = true ∧ s.blk.pres.screen = some { deck := .a, slot := 1 } ∧ s.blk.pres.stopped .a = false ∧
      s.blk.deckA.op? = some op ∧ 1 < (freshMap .short).size ∧ 1 ≠ op.target ∧ op.stopEmpty = false) ∧
    (∀ st ∈ [Stand.change, .pending, .fadeOut],
      let s := granted2 fun p => { p with frozen := true, transition := some (trans st (some .a)) }
      abortable s = true ∧ s.blk.pres.commitDeferred = false) := by
  decide +kernel

/-- What follows: ABORTED before OK where the transition ends, and OK alone where it turns back. -/
theorem test_abort :
    (let codes (t : State) := t.port.out.map fun r => (slotByte r 1, slotByte r 3)
     after (exec (.abort 9 5) (granted2 fun p => { p with frozen := true, transition := some (trans .pending (some .a)) }))
       (fun t => codes t == [(0x32, 1), (0x70, 0)] && t.blk.pres.transition == none) = true ∧
     after (exec (.abort 9 5) (granted2 fun p => { p with frozen := true, transition := some (trans .change (some .a)) }))
       (fun t => codes t == [(0x70, 0)] && t.blk.pres.transition == some (trans .returnChange (some .a))) = true) := by
  decide +kernel

theorem test_met_PresentationRequestsQueue :
    r0.Takes 0x30 ∧ r0.Takes 0x31 ∧ r0.Takes 0x32 ∧ r0.Takes 0x33 ∧ (200 : Byte).toNat ≤ 200 ∧
      200 < (201 : Byte).toNat ∧
    (2 : Byte).toNat ≤ 2 ∧ 2 < (3 : Byte).toNat := by
  decide +kernel

/-- A CUE request of a kind stands at the head of its queue in SHOW mode, at its phase. -/
def cueHead (kind : Kind) : State :=
  State.setArb (r0.setPres fun p => { p with mode := .show }) fun a =>
    { a with pointer := 1, cue := [{ source := .cue, kind := kind, arg := some 7, ticket := none }] }

/-- A phase table with three pending copies: two sources wait for their authority. -/
def pendingAll : State := State.setArb r0 fun a => { a with
  pointer := 7
  pendingPhases := some { table := some .cport :: List.replicate 15 none, ticket := ticket0 }
  pendingAuthority := some { table := a.authority, waiting := [{ ticket := ticket0, source := .link },
    { ticket := ticket0, source := .remote }] }
  pendingLock := some { lock := { lo := 1, hi := 2, invert := true }, ticket := ticket0 } }

/-- A request of one source alone waits, its phase `k` phases past the pointer. -/
def lone (src : Source) (kind : Kind) (k : Nat) (row : Authority) (mode : Mode) : State :=
  State.setArb (r0.setPres fun p => { p with mode := mode }) fun a =>
    let r : Request := { source := src, kind := kind, arg := some 7, ticket := if src = .cport then some ticket0 else none }
    { (a.setQueue src [r]) with
      phases := (some Source.cport :: List.replicate 14 none) ++ [some src]
      pointer := 15 - k
      authority := { a.authority with
        link := { row with edit := false }, remote := { row with edit := false }, cue := { row with edit := false } } }

def allowed : Authority := { motion := true, level := true, edit := false, tape := true }

def denied : Authority := { motion := false, level := false, edit := false, tape := false }

theorem test_met_GrantOpportunity :
    (r0.Ok ∧ r0.open = true ∧ r0.arb.hasPending = false ∧
      ∀ src, some src ∈ r0.arb.phases → r0.arb.queue src = []) ∧
    ((r0.setPres fun p => { p with frozen := true }).Ok ∧ (r0.setPres fun p => { p with frozen := true }).open = false) ∧
    (pendingAll.Ok ∧ pendingAll.open = true ∧ pendingAll.arb.hasPending = true) := by
  refine ⟨⟨by decide +kernel, by decide +kernel, by decide +kernel, ?_⟩, by decide +kernel, by decide +kernel⟩
  rintro (_ | _ | _ | _) _ <;> rfl

/-- The head that the scan comes to: at the pointer, and past fifteen phases that grant nothing; it is refused, or
granted. -/
theorem test_met_GrantOpportunity_head :
    (∀ k ∈ [0, 14, 15], ∀ x ∈ [(Source.link, Kind.dark, denied, Mode.show, some Status.noAuthority),
        (.remote, .advance, denied, .setup, some .noAuthority), (.cue, .cut, allowed, .setup, some .wrongMode),
        (.cue, .level, denied, .show, some .noAuthority), (.cue, .cut, allowed, .show, none),
        (.cue, .dissolve, allowed, .show, none), (.link, .goto, allowed, .program, none)],
      let s := lone x.1 x.2.1 k x.2.2.1 x.2.2.2.1
      s.Ok ∧ s.open = true ∧ s.arb.hasPending = false ∧ (s.arb.queue x.1).length = 1 ∧
      (s.arb.phases[(s.arb.pointer + k) % 16]?).join = some x.1 ∧
      (∀ i ∈ List.range k, ∀ src ∈ [Source.cport, .link, .remote, .cue],
        (s.arb.phases[(s.arb.pointer + i) % 16]?).join = some src → s.arb.queue src = []) ∧
      s.arb.refusal s.blk.pres.mode x.1 x.2.1 = x.2.2.2.2 ∧ s.blk.tape.undelivered ≤ 255) := by
  decide +kernel

/-- What follows: the three answers of an activation, and a discarded LINK request with its event. -/
theorem test_grantOpportunity :
    after (exec .grantOpportunity (lone .link .goto 15 denied .setup)) (fun t =>
      t.arb.link == [] && t.arb.pointer == 0 && t.port.out.length == 1) = true ∧
    after (exec .grantOpportunity (lone .cue .cut 15 allowed .show)) (fun t =>
      t.arb.cue == [] && t.arb.pointer == 0 && t.blk.pres.cut) = true ∧
    after (exec .grantOpportunity pendingAll) (fun t =>
      t.arb.pointer == 0 && !t.arb.hasPending && t.arb.lock == { lo := 1, hi := 2, invert := true }) = true := by
  decide +kernel

def goto1 : Request := { source := .cport, kind := .goto, arg := some 1, ticket := some ticket0 }

/-- A GOTO of frame 1 waits, and deck A stands at position 63. -/
def gotoWaits : State :=
  State.setArb ((owing 0x32 (r0.setPres twoFrames)).setDeck .a fun _ => homed .empty 63) fun a => { a with cport := [goto1] }

/-- A request of CPORT is alone, with the pointer at CPORT's phase. -/
def asked (kind : Kind) (arg : Option Nat) (f : Pres → Pres) : State :=
  State.setArb ((owing 0x32 r0).setPres fun p => f (showing p)) fun a =>
    { a with cport := [{ source := .cport, kind := kind, arg := arg, ticket := some ticket0 }] }

/-- What the clauses on a request of CPORT ask of each state. -/
def grantable (s : State) : Bool :=
  decide (s.Ok ∧ s.open = true ∧ s.arb.hasPending = false ∧ s.arb.phases[s.arb.pointer]? = some (some .cport)) &&
    s.arb.cport.all (fun r => r.source == .cport && r.ticket == some ticket0) && s.arb.cport.length == 1

theorem test_met_GrantedRequestEnds_motion :
    (∀ k ∈ [Kind.advance, .reverse, .goto], ∀ q ∈ [Power.cooldown, .standby],
      grantable ((asked k (some 1) id).setLcu fun c => { c with power := q }) = true) ∧
    (let s := asked .goto (some 3) id
     grantable s = true ∧ s.blk.lcu.power = .active ∧ s.blk.pres.frames.length < 3) ∧
    grantable (asked .reverse none fun p => { p with current := 0, screen := none }) = true ∧
    (∀ m ∈ [Mode.setup, .program], let s := asked .goto (some 1) fun p => { p with mode := m }
     grantable s = true ∧ 1 = s.blk.pres.current ∧ s.blk.pres.screen.isSome = true ∧ 1 ≤ s.blk.pres.frames.length ∧
     s.blk.tape.transport ≠ .recording) ∧
    (let s := asked .advance none fun p => { p with frames := p.frames.take 1, loopEnd := 1, loopOn := true }
     grantable s = true ∧ s.blk.pres.advanceFrom s.blk.pres.current = s.blk.pres.current) ∧
    (let s := asked .advance none fun p => { p with current := 2, screen := none }
     grantable s = true ∧ s.blk.pres.advanceFrom 2 = 0 ∧ s.blk.pres.current = 2 ∧ s.blk.pres.screen = none ∧
     s.blk.lcu.zone ≠ .critical ∧ s.blk.pres.commitDeferred = false) ∧
    (let s := asked .reverse none fun p => { p with screen := none }
     grantable s = true ∧ s.blk.pres.reverseFrom 1 = 0) := by
  decide +kernel

theorem test_met_GrantedRequestEnds_dark :
    (∀ b ∈ [true, false], ∀ n ∈ [0, 1, 2], grantable (asked .dark (some n) fun p => { p with blackout := b }) = true) ∧
    (let s := asked .dark (some 1) fun p => { p with screen := none, mode := .program }
     grantable s = true ∧ s.blk.pres.blackout = false ∧ s.blk.pres.screen = none ∧ s.blk.tape.transport ≠ .recording) ∧
    (∀ st ∈ [LampState.off, .lit, .dead], ∀ n ∈ [0, 100],
      let s := (asked .dark (some 2) id).setLamp .a fun l => { l with
        state := st, inhibit := none, granted := if st = .lit then n else 0, output := if st = .lit then n else 0 }
      grantable s = true ∧ s.blk.pres.current ≠ 0 ∧ s.blk.pres.screen = some { deck := .a, slot := 1 } ∧
      s.blk.pres.frame? 1 = some (frame .a 1) ∧ s.blk.noFade ∧ s.blk.pres.mode ≠ .program ∧
      s.blk.lampA.claim = false ∧ s.blk.lcu.priority = .a) := by
  decide +kernel

/-- A LEVEL of CUE at its bounds, with the screen dark, in blackout, and on a lit lamp. -/
theorem test_met_GrantedRequestEnds_level : ∀ n ∈ [0, 10, 100, 255], ∀ x ∈ [(false, false), (true, true), (true, false)],
    let s := (lone .cue .level 0 allowed .show).setPres fun p => { showing p with
      blackout := x.2, screen := if x.1 then some { deck := .a, slot := 1 } else none }
    let s := State.setArb (s.setLamp .a fun l => { l with state := .lit, inhibit := none, granted := 70, output := 70 })
      fun a => { a with cue := [{ source := .cue, kind := .level, arg := some n, ticket := none }] }
    s.Ok ∧ s.open = true ∧ s.arb.hasPending = false ∧ s.arb.phases[s.arb.pointer]? = some (some .cue) ∧
    s.blk.pres.mode = .show ∧ s.arb.authority.cue.level = true ∧ s.blk.noFade ∧ s.blk.lampA.claim = false ∧
    s.blk.lcu.priority = .a ∧ s.blk.pres.frame? 1 = some (frame .a 1) := by
  decide +kernel

/-- What follows: the target that is presented, and the ramp of a DARK. -/
theorem test_grantedRequestEnds :
    after (exec .grantOpportunity (asked .goto (some 1) id)) (fun t =>
      t.blk.pres.granted == none && t.port.out.map (fun r => slotByte r 3) == [0]) = true ∧
    after (exec .grantOpportunity ((asked .dark (some 2) id).setLamp .a fun l => { l with
      state := .lit, inhibit := none, granted := 70, output := 70 })) (fun t =>
        t.blk.pres.levelWait == some .a && t.blk.pres.blackout &&
          t.blk.lampA.ramp == some { start := 70, target := 0, total := 500, left := 500 }) = true := by
  decide +kernel

/-- Five frames on deck A but for the first, on deck B; the second and fourth are passed over. -/
def walks (p : Pres) : Pres := { p with
  frames := [frame .b 5, { frame .a 1 with skip := true }, frame .a 2, { frame .a 3 with skip := true }, frame .a 4] }

/-- A motion request of CPORT waits, with deck A at position 63 and frame 1 or frame 5 on screen from deck B. -/
def moves (r : Request) (current : Nat) (x : Deck) (f : Pres → Pres) : State :=
  State.setArb (((owing 0x32 r0).setPres fun p => f { walks p with
    current := current, screen := if current = 0 then none else some { deck := .b, slot := 5 } }).setDeck .a fun _ => x)
      fun a => { a with cport := [r] }

def motion (kind : Kind) (arg : Option Nat) : Request :=
  { source := .cport, kind := kind, arg := arg, ticket := some ticket0 }

/-- What the statement asks of each of these states, for a frame and its slot on deck A. -/
def orderable (s : State) (n slot : Nat) (p : Nat) : Bool :=
  grantable s && decide (s.blk.pres.frame? n = some (frame .a slot) ∧ n ≠ s.blk.pres.current ∧ s.blk.lcu.power = .active ∧
    s.blk.lcu.zone ≠ .critical ∧ s.blk.pres.pairing ≠ .mirror ∧
    (if s.blk.pres.pairing = .single then DeckId.a else (frame .a slot).deck) = .a ∧
    (∀ sc ∈ s.blk.pres.screen, sc.deck ≠ .a) ∧ s.blk.pres.stopped .a = false ∧ s.blk.deckA.inService = true ∧
    s.blk.deckA.map = some (freshMap .short) ∧ s.blk.deckA.position = some p ∧ slot < (freshMap .short).size ∧
    (freshMap .short).slots[slot]? = some { presence := .unknown, faults := 0, pass := none } ∧
    s.blk.lampA.isDead = false ∧ s.blk.lampA.unlit = false ∧ s.blk.lampA.claim = false ∧ s.blk.lampA.output = 0 ∧
    s.blk.noFade)

theorem test_met_GrantedMotionOrdersAChange :
    (∀ x ∈ [(homed .empty 63, 63), ({ homed (.loaded 63) 63 with gateMade := true }, 63), (homed .empty 33, 33)],
      ∀ q ∈ [Pairing.single, .alternate], ∀ c ∈ [0, 1],
      orderable (moves (motion .goto (some 3)) c x.1 fun p => { p with pairing := q }) 3 2 x.2 = true ∧
      orderable (moves (motion .advance none) c x.1 fun p => { p with pairing := q, loopOn := false }) 3 2 x.2 = true) ∧
    orderable (moves (motion .reverse none) 5 (homed .empty 63) id) 3 2 63 = true ∧
    orderable (moves (motion .advance none) 4 (homed .empty 63) fun p =>
      { p with loopStart := 3, loopEnd := 4, loopOn := true }) 3 2 63 = true := by
  decide +kernel

/-- The walks of those states: past a frame with SKIP, round the loop window, and back over it. -/
theorem test_met_GrantedMotionOrdersAChange_walks :
    (let p := walks Pres.reset
     p.firstOn p.after 1 ∧ { p with current := 1 }.firstOn p.after 3 ∧ { p with current := 5 }.firstOn p.before 3) ∧
    (let p : Pres := { walks Pres.reset with current := 4, loopStart := 3, loopEnd := 4, loopOn := true }
     p.firstOn p.after 3) ∧
    (let p : Pres := { walks Pres.reset with current := 1, loopStart := 1, loopEnd := 5, loopOn := true }
     p.firstOn p.before 5) :=
  ⟨⟨⟨0, by decide⟩, ⟨1, by decide⟩, ⟨1, by decide⟩⟩, ⟨0, by decide⟩, ⟨0, by decide⟩⟩

/-- A transition is in progress, so that no opportunity can arise. -/
def busyShow : State := r0.setPres fun p => { showing p with granted := some goto1 }

theorem test_met_SetTables :
    r0.arb.held = false ∧ r0.arb.hasPending = false ∧ r0.open = true ∧ busyShow.arb.held = false ∧
    busyShow.arb.hasPending = false ∧ busyShow.open = false ∧
    r0.Takes 0x60 ∧ r0.Takes 0x61 ∧ r0.Takes 0x62 ∧ busyShow.Takes 0x60 ∧ busyShow.Takes 0x61 ∧ busyShow.Takes 0x62 ∧
    allSome (([0] ++ List.replicate 15 4 : List Byte).map phaseOf) =
      some (some Source.cport :: List.replicate 15 none) ∧
    sourceOf 1 = some .link ∧ sourceOf 3 = some .cue ∧
    r0.arb.cport = [] ∧ r0.arb.link = [] ∧ r0.arb.remote = [] ∧ r0.arb.cue = [] ∧
    rangeLockOf 1 200 1 = some { lo := 1, hi := 200, invert := true } ∧
    rangeLockOf 0 0 0 = some { lo := 0, hi := 0, invert := false } := by
  decide +kernel

/-- A request that waits for an authority is granted at the event that gives it. -/
theorem test_setAuthority_grants :
    after (exec (.setAuthority 7 1 1 1 1 1) (State.setArb r0 fun a => { a with
      authority := { a.authority with link := { motion := false, level := true, edit := false, tape := true } }
      link := [{ source := .link, kind := .reverse, arg := none, ticket := none }] })) (fun t =>
        t.arb.link == [] && t.port.out.length == 2) = true := by decide +kernel

/-- The tables are held. -/
def held : State := State.setArb r0 fun a => { a with key := true, lockHold := true }

theorem test_met_LockHold :
    r0.Takes 0x63 ∧ r0.arb.held = false ∧ 1 < (2 : Byte).toNat ∧ held.arb.key = true ∧ held.arb.lockHold = true ∧
    held.Takes 0x63 ∧ held.Takes 0x60 ∧ held.Takes 0x61 ∧ held.Takes 0x62 := by
  decide +kernel

/-- Deck A holds a tray, deck B one of the long size; the frame table has two frames. -/
def trays : State := ((r0.setPres twoFrames).setDeck .a fun _ => homed .empty 0).setDeck .b fun _ =>
  { homed .empty 0 with map := some (freshMap .long) }

theorem test_met_ShowReads :
    trays.Takes 0x10 ∧ deckOf 0 = some .a ∧ deckOf 1 = some .b ∧ (trays.blk.deck .a).map = some (freshMap .short) ∧
    (trays.blk.deck .b).map = some (freshMap .long) ∧ (63 : Byte).toNat < (freshMap .short).size ∧
    (99 : Byte).toNat < (freshMap .long).size ∧ (8 : Byte).toNat ≤ 8 ∧ trays.Takes 0x11 ∧ (4 : Byte).toNat ≤ 4 ∧
    (2 : Byte).toNat ≤ trays.blk.pres.frames.length ∧ trays.Takes 0x2A ∧ trays.blk.pres.mismatch = none ∧
    (trays.setPres fun p => { p with
      mismatch := some { passA := 1, passB := 1, total := 16, overflow := false, slots := List.range 16 } }).Takes 0x2A ∧
    (List.range 16).length ≤ 16 ∧ trays.Takes 0x39 := by
  decide +kernel

def entry (count seq : Nat) : CueEntry := { count := count, seq := seq, kind := .advance, arg := 0, frameAfter := 2 }

theorem test_met_StatusReads :
    r0.Takes 0x25 ∧ r0.Takes 0x43 ∧ r0.Takes 0x44 ∧ r0.Takes 0x5F ∧ r0.Takes 0x5A ∧ (0 : Byte).toNat = 0 ∧
    (r0.setTape fun t => { t with map := [entry 4 0, entry 8 1] }).Takes 0x5A ∧ (8 : Byte).toNat ≤ 8 ∧
    (2 : BitVec 16).toNat ≤ (r0.setTape fun t => { t with map := [entry 4 0, entry 8 1] }).blk.tape.map.length ∧
    r0.Takes 0x6B ∧ r0.Takes 0x64 := by
  decide +kernel

/-! ### Show records -/

/-- The edit buffer is open, or waits, over frames 1 and 2. -/
def editing (deferred : Bool) : State := (if deferred then owing 0x14 r0 else r0).setPres fun p =>
  { showing p with
    edit := if deferred then .deferred 1 [frame .a 1, frame .b 2] 1 ticket0 else .opened 1 [frame .a 1, frame .b 2] }

theorem test_met_EditBuffer_set :
    r0.Takes 0x12 ∧ r0.blk.pres.commitDeferred = false ∧ (200 : Byte).toNat + (1 : Byte).toNat ≤ 201 ∧
    (185 : Byte).toNat + (16 : Byte).toNat ≤ 201 ∧ (16 : Byte).toNat ≤ 16 ∧
    (editing false).Takes 0x13 ∧ (editing false).blk.pres.edit = .opened 1 [frame .a 1, frame .b 2] ∧
    ([frame .a 1, frame .b 2] : List Frame)[(2 : Byte).toNat - 1]? = some (frame .b 2) ∧
    (frame .b 2).write 3 10 = some { frame .b 2 with level := 10 } ∧ (frame .b 2).write 3 9 = none ∧
    (frame .b 2).write 7 0 = none ∧ 2 < (3 : Byte).toNat ∧ 16 < (17 : Byte).toNat ∧
    201 < (186 : Byte).toNat + (16 : Byte).toNat := by
  decide +kernel

theorem test_met_EditBuffer_cancel :
    (editing false).blk.pres.edit = .opened 1 [frame .a 1, frame .b 2] ∧ (editing false).Takes 0x15 ∧
    r0.blk.pres.edit = .closed ∧ r0.Takes 0x15 ∧ r0.Takes 0x13 ∧ r0.Takes 0x14 ∧
    (editing true).blk.pres.commitDeferred = true ∧ (editing true).Takes 0x15 ∧ (editing true).Takes 0x12 ∧
    (editing true).Takes 0x13 ∧ (editing true).Takes 0x14 ∧ (editing true).Takes 0x70 ∧
    ((editing true).port.unanswered.find? fun y => y.ticket.tag == 5) =
      some { ticket := ticket0, code := 0x14, places := places 0x14 } ∧
    (editing true).queuePlace 0 = none ∧ (editing true).blk.deckA.runsFor 0 = none ∧
    (editing true).blk.deckB.runsFor 0 = none ∧ (editing true).blk.pres.granted = none ∧
    (editing true).blk.link.readHold = none := by
  decide +kernel

/-- The run of the open buffer is committed over the current frame: with its deck on screen, blackout on or off and the
hold timer running or expired, with the screen dark, and with nothing presented. -/
theorem test_met_EditCommit_current :
    (∀ b ∈ [true, false], ∀ h ∈ [HoldTimer.running 5, .expired, .absent],
      let s := (editing false).setPres fun p => { p with blackout := b, hold := h }
      s.Takes 0x14 ∧ s.blk.pres.edit = .opened 1 [frame .a 1, frame .b 2] ∧ 1 ≤ s.blk.pres.current ∧
      ([frame .a 1, frame .b 2] : List Frame)[s.blk.pres.current - 1]? = some (frame .a 1) ∧
      s.blk.pres.state = .showing ∧ s.blk.pres.screen = some { deck := .a, slot := 1 } ∧
      s.blk.pres.granted = none ∧ s.blk.noFade ∧ s.blk.pres.preload = none ∧ s.blk.pres.loopOn = false ∧
      s.blk.pres.transition = none ∧ s.arb.lock.lo = 0) ∧
    (let s := (editing false).setPres fun p => { p with screen := none }
     s.Takes 0x14 ∧ s.blk.pres.state = .showing ∧ s.blk.pres.screen = none) ∧
    (let s := (editing false).setPres fun p => { p with frozen := true }
     s.Takes 0x14 ∧ s.blk.pres.state = .frozen) := by
  decide +kernel

/-- The run of the open buffer is moved to other frames, or meets a lock, or the transition. -/
theorem test_met_EditCommit :
    (editing false).Takes 0x14 ∧ (editing false).blk.pres.edit = .opened 1 [frame .a 1, frame .b 2] ∧
    2 + 1 < (4 : Byte).toNat ∧ 3 ≤ 2 + 1 ∧ 3 + 2 ≤ 201 ∧
    ((List.range 2).any fun k => (editing false).arb.lock.protects (3 + k)) = false ∧
    ((List.range 2).any fun k => (editing false).blk.pres.inTransition (3 + k)) = false ∧
    (editing false).blk.pres.current < 3 ∧ (editing false).blk.pres.preload = none ∧
    (editing false).blk.pres.loopOn = false ∧
    (let s := State.setArb (editing false) fun a => { a with lock := { lo := 4, hi := 4, invert := false } }
     s.Takes 0x14 ∧ ((List.range 2).any fun k => s.arb.lock.protects (3 + k)) = true) ∧
    (let s := (editing false).setPres fun p => { p with transition := some {
       target := 2, cls := 2, stand := .pending, excludedA := none, excludedB := none, serving := some .b
       reselected := false, tookOver := false, past := false, lampLost := false
       behindStop := false } }
     s.Takes 0x14 ∧ ((List.range 2).any fun k => s.blk.pres.inTransition (1 + k)) = true) := by
  decide +kernel

theorem test_met_TableRebuild :
    trays.blk.pres.mode = .setup ∧ trays.arb.lock.lo = 0 ∧ trays.blk.pres.commitDeferred = false ∧
    trays.blk.pres.preload = none ∧ trays.blk.pres.loopOn = false ∧ trays.Takes 0x16 ∧
    (2 : Byte).toNat ≤ trays.blk.pres.frames.length ∧ trays.blk.pres.current ≤ (0 : Byte).toNat ∧
    trays.blk.pres.transition = none ∧ trays.Takes 0x17 ∧ trays.blk.pres.state = .empty ∧
    pairingOf 0 = some .single ∧ pairingOf 1 = some .alternate ∧ pairingOf 2 = some .mirror := by
  decide +kernel

/-- A slot of deck A has a fault count. -/
def faulty (n : Nat) : State := trays.setDeck .a fun x => { x with map := some { freshMap .short with
  slots := (freshMap .short).slots.set 63 { presence := .present, faults := n, pass := none } } }

/-- A ladder at stage 1 works on slot 63. -/
def laddering : State := (faulty 3).setDeck .a fun x =>
  { x with state := .busy { Operation.new .change 63 .presentation false with phase := .drop, stage := 1 } }

theorem test_met_SlotMarks :
    (∀ n ∈ [3, 4], ((faulty n).blk.deck .a).map = some { freshMap .short with
      slots := (freshMap .short).slots.set 63 { presence := .present, faults := n, pass := none } }) ∧
    (63 : Byte).toNat < (freshMap .short).size ∧ (faulty 3).Takes 0x28 ∧ (faulty 4).Takes 0x28 ∧
    (faulty 3).port.out.length + (faulty 3).port.reserved + 2 ≤ 24 ∧ (faulty 3).Takes 0x29 ∧
    ((faulty 3).blk.deck .a).ladderOn 63 = false ∧ laddering.Takes 0x29 ∧
    (laddering.blk.deck .a).ladderOn 63 = true := by
  decide +kernel

/-- What follows from those hypotheses on that state: the tray turns forward from position 63 to slot 1. -/
theorem test_gotoWaits_granted : after (exec .grantOpportunity gotoWaits) (fun t =>
    t.blk.pres.state == .pending && (match t.blk.deckA.state with
      | .busy op => op.drive == some .forward && op.target == 1 && op.phase == .rotate
      | _ => false)) = true := by decide +kernel

/-! ### Deck controllers -/

theorem test_met_DeckSettings :
    deckOf 0 = some .a ∧ deckOf 1 = some .b ∧ trays.Takes 0x23 ∧ trays.Takes 0x26 ∧
    trays.blk.pres.uses .a = false ∧ trays.blk.pres.preload = none ∧
    (trays.setPres showing).Takes 0x23 ∧ (trays.setPres showing).blk.pres.uses .a = true ∧
    (let s := trays.setDeck .a fun x => { x with state := .fault .jam, gateMade := true }
     s.Takes 0x24 ∧ (s.blk.deck .a).state = .fault .jam ∧ (s.blk.deck .a).gateMade = true) ∧
    (∀ m ∈ [Mode.show, Mode.program], (trays.setPres fun p => { p with mode := m }).Takes 0x21) := by
  decide +kernel

theorem test_met_DeckOperationsStart :
    (let s := trays
     (s.blk.deck .a).gateMade = false ∧ (s.blk.lamp .a).claim = false ∧ s.blk.operationRefusal .a = none ∧
     s.blk.pres.preload = none ∧ (s.blk.deck .a).state = .idle .empty ∧ s.Takes 0x20 ∧ s.Takes 0x21 ∧
     s.blk.pres.mode = .setup ∧ s.Takes 0x22 ∧ (s.blk.deck .a).position = some 0 ∧
     (s.blk.deck .a).map = some (freshMap .short)) ∧
    (∀ p ∈ [1, 31, 32, 33, 63], let s := trays.setDeck .a fun x => { x with position := some p }
     s.blk.operationRefusal .a = none ∧ s.Takes 0x22 ∧ (s.blk.deck .a).position = some p ∧
     (s.blk.deck .a).state = .idle .empty) ∧
    (let s := trays.setDeck .a fun x => { x with state := .unhomed 0, position := none }
     (s.blk.deck .a).gateMade = false ∧ s.blk.operationRefusal .a = none ∧ (s.blk.deck .a).state = .unhomed 0 ∧
     (s.blk.deck .a).position = none ∧ s.Takes 0x20 ∧ s.Takes 0x22) ∧
    (let s := trays.setDeck .a fun x => { x with state := .fault .drive, position := none }
     (s.blk.deck .a).gateMade = false ∧ (s.blk.deck .a).state = .fault .drive ∧ s.Takes 0x24 ∧ s.Takes 0x20 ∧
     s.blk.operationRefusal .a = some .wrongState) := by
  decide +kernel

/-- A deck with its gate made, under a dark lamp or one that is lit, and a jammed deck that holds its claim. -/
theorem test_met_DeckOperationsStart_lift :
    (∀ st ∈ [DeckState.idle (.loaded 0), .idle .empty, .unhomed 7],
      let s := trays.setDeck .a fun x => { x with
        state := st, gateMade := true, position := match st with | .unhomed _ => none | _ => some 0 }
      let t := (s.setLamp .a fun l => { l with
        state := .lit, inhibit := none, commanded := 80, granted := 80, output := 80 })
      s.Takes 0x20 ∧ s.Takes 0x21 ∧ s.Takes 0x22 ∧ s.blk.operationRefusal .a = none ∧ s.blk.pres.preload = none ∧
      s.blk.pres.mode = .setup ∧ (s.blk.deck .a).gateMade = true ∧ (s.blk.lamp .a).claim = false ∧ s.blk.noFade ∧
      (s.blk.lamp .a).output = 0 ∧ t.Takes 0x20 ∧ t.Takes 0x21 ∧ t.Takes 0x22 ∧ t.blk.operationRefusal .a = none ∧
      t.blk.noFade ∧ 0 < (t.blk.lamp .a).output ∧ (t.blk.lamp .a).ramp = none ∧
      (t.blk.lamp .a).commanded = (t.blk.lamp .a).output ∧ t.blk.lcu.priority = .a) ∧
    (let s := (trays.setDeck .a fun x => { x with state := .fault .jam }).setLamp .a fun l => { l with claim := true }
     s.Takes 0x24 ∧ (s.blk.deck .a).gateMade = false ∧ s.blk.noFade ∧ (s.blk.deck .a).state = .fault .jam ∧
     (s.blk.lamp .a).claim = true) := by
  decide +kernel

/-- DECK_RELEASE of a homed deck is at work, with its tray unlatched. -/
def unlatched : State := (owing 0x22 trays).setDeck .a fun x => { x with
  state := .busy { Operation.new .release 0 (.host ticket0) false with phase := .unlatched }, latchClosed := false }

theorem test_met_TrayEvents :
    r0.Ok ∧ (r0.blk.deck .b).state = .absent ∧
    (let s := trays.setDeck .a fun x => { x with state := .unhomed 1, position := none }
     s.Ok ∧ (s.blk.deck .a).state = .unhomed 1 ∧ (s.blk.deck .a).gateMade = false ∧ (s.blk.lamp .a).claim = false) ∧
    trays.Ok ∧ trays.blk.unconcerned .a ∧ (trays.blk.lamp .a).claim = false ∧
    (trays.blk.deck .a).state = .idle .empty ∧ unlatched.Ok ∧ unlatched.blk.unconcerned .a ∧
    (unlatched.blk.lamp .a).claim = false ∧ unlatched.blk.deckA.op?.map (·.phase) = some .unlatched ∧
    (let s := (trays.setPres showing).setDeck .a fun x => { x with state := .idle (.loaded 1), position := some 1 }
     s.Ok ∧ s.blk.noFade ∧ s.blk.pres.transition = none ∧ s.blk.pres.frozen = false ∧ s.blk.pres.current ≠ 0 ∧
     s.blk.pres.screen = some { deck := .a, slot := 1 } ∧ s.blk.pres.preload = none ∧
     (s.blk.deck .a).state = .idle (.loaded 1) ∧ (s.blk.lamp .a).claim = false ∧ s.blk.pres.levelWait ≠ some .a) := by
  decide +kernel

/-- Deck A works at a position. -/
def atWork (op : Operation) (p : Option Nat) : State := trays.setDeck .a fun _ => working op p

def homing (fromUnhomed : Bool) (pulses : Nat) : Operation :=
  { Operation.new .home 0 .internal fromUnhomed with
    phase := .seekIndex, drive := some .forward, watch := some 250, pulses := pulses }

def scanning (left : Nat) : Operation :=
  { Operation.new .census 0 (.host ticket0) false with
    phase := .scan, drive := if left = 0 then none else some .forward, scanLeft := left
    watch := if left = 0 then none else some 250 }

theorem test_met_SlotPulse :
    trays.Ok ∧ (trays.blk.deck .a).op? = none ∧
    (∀ p ∈ [0, 2, 63], (atWork (change .rotate (some .backward) (some 250)) (some p)).Ok ∧
      ((atWork (change .rotate (some .backward) (some 250)) (some p)).blk.deck .a).op? =
        some (change .rotate (some .backward) (some 250)) ∧
      ((atWork (change .rotate (some .backward) (some 250)) (some p)).blk.deck .a).slips ≤ 255) ∧
    (∀ n ∈ [1, 64], (atWork (scanning n) (some 0)).Ok ∧
      ((atWork (scanning n) (some 0)).blk.deck .a).op? = some (scanning n) ∧ (scanning n).drive = some .forward) ∧
    (∀ b ∈ [true, false], ∀ n ∈ [0, 67], (atWork (homing b n) none).Ok ∧
      ((atWork (homing b n) none).blk.deck .a).op? = some (homing b n) ∧ (homing b n).suspended = none ∧
      (homing b n).abortHeld = false ∧ (homing b n).resetting = false ∧
      ((atWork (homing b n) none).blk.deck .a).censusOwed = false) ∧
    ((atWork (homing true 5) none).setDeck .a fun x => { x with censusOwed := true }).Ok := by
  decide +kernel

/-- What follows at the bounds: one step short of slot 1, and past position 0 with a slip. -/
theorem test_slotPulse :
    after (exec (.slotPulse .a false true) (atWork (change .rotate (some .backward) (some 250)) (some 2))) (fun t =>
      t.blk.deckA.position == some 1 && (t.blk.deckA.op?.map (·.drive)) == some none && t.blk.deckA.slips == 0) = true ∧
    after (exec (.slotPulse .a true true) (atWork (change .rotate (some .backward) (some 250)) (some 63))) (fun t =>
      t.blk.deckA.position == some 0 && (t.blk.deckA.op?.map (·.drive)) == some (some .forward) &&
        t.blk.deckA.slips == 1) = true := by decide +kernel

/-- A scan in which an index pulse comes before its last step, with no slip before it or with one. -/
def slipping (slips left : Nat) : Operation := { scanning left with scanSlips := slips }

theorem test_met_SlotPulse_DeckFaults_slip : ∀ n ∈ [0, 1], ∀ k ∈ [2, 64],
    (atWork (slipping n k) (some 7)).Ok ∧ (atWork (slipping n k) (some 7)).blk.unconcerned .a ∧
    ((atWork (slipping n k) (some 7)).blk.deck .a).op? = some (slipping n k) ∧
    (slipping n k).drive = some .forward ∧ (slipping n k).scanSlips = n ∧ 1 < (slipping n k).scanLeft ∧
    ((atWork (slipping n k) (some 7)).blk.lamp .a).claim = false ∧
    ((atWork (slipping n k) (some 7)).blk.deck .a).gateMade = false ∧
    ((atWork (slipping n k) (some 7)).blk.deck .a).slips ≤ 255 := by
  decide +kernel

/-- A held ABORT of a DECK_RELEASE in ROTATE, a DECK_CENSUS in SCAN, and either in SEEK_INDEX. -/
theorem test_met_SlotPulse_abort :
    (∀ x ∈ [(OpKind.release, Phase.rotate, some 7, 0), (.census, .scan, some 7, 1), (.census, .scan, some 7, 2),
        (.census, .scan, some 7, 64), (.census, .seekIndex, none, 0), (.release, .seekIndex, none, 0)],
      let op : Operation := { Operation.new x.1 0 (.host ticket0) false with
        phase := x.2.1, drive := some .forward, watch := some 250, scanLeft := x.2.2.2, abortHeld := true }
      let s := owing 0x22 (atWork op x.2.2.1)
      s.Ok ∧ (s.blk.deck .a).op? = some op ∧ (s.blk.deck .a).slips ≤ 255 ∧ (s.blk.deck .a).position = x.2.2.1 ∧
      (s.blk.deck .a).gateMade = false ∧ (s.blk.lamp .a).claim = false) := by
  decide +kernel

theorem test_met_DeckFaults :
    (∀ op ∈ [homing false 3, scanning 3, change .rotate (some .forward) (some 250), change .lift none (some 500)],
      (atWork op (some 5)).Ok ∧ (atWork op (some 5)).blk.unconcerned .a ∧
        ((atWork op (some 5)).blk.deck .a).op? = some op ∧
      op.resetting = false ∧ op.suspended = none ∧ ((atWork op (some 5)).blk.lamp .a).claim = false ∧
      ((atWork op (some 5)).blk.deck .a).gateMade = false ∧ op.autoHomeUsed = false) ∧
    (let op := { homing false 68 with drive := none, watch := none }
     (atWork op none).Ok ∧ (atWork op none).blk.unconcerned .a ∧
       ((atWork op none).blk.deck .a).searchLimitDue = true) := by
  decide +kernel

/-- FROZEN, with a PENDING transition whose CHANGE on deck A, or an older one, is under a STOP. -/
def frozenWait (op : Operation) (behind : Bool) : State := (atWork op (some 1)).setPres fun p => { p.setStop .a true with
  frozen := true
  transition := some {
    target := 1, cls := 2, stand := .pending, excludedA := none, excludedB := none, serving := some .a
    reselected := false, tookOver := false, past := false, lampLost := false, behindStop := behind } }

/-- A FAULT of that CHANGE excludes the deck; an EMPTY_SLOT of an older CHANGE does not (R84, R94, R98). -/
theorem test_frozen_report : ∀ behind ∈ [true, false],
    let excluded (r : Option Reason) (t : State) : Bool := t.blk.pres.transition.map (fun x => x.excludedA) == some r
    let empty := { change .rotate none none with stopHeld := true, stopEmpty := true }
    after (exec (.liftWatchExpiry .a) (frozenWait (change .lift none (some 0)) behind)) (excluded (some .nodeck)) = true ∧
    after (exec (.rotateDistanceEnd .a true) (frozenWait empty behind))
      (excluded (if behind then none else some .empty)) = true := by decide +kernel

/-- Deck A has turned to slot 1, which has a fault count; the lamp is out and the claim is held, or free. -/
def arrived (op : Operation) (faults : Nat) (claim : Bool) : State :=
  ((atWork op (some op.target)).setDeck .a fun x => { x with map := some { freshMap .short with
    slots := (freshMap .short).slots.set 1 { presence := .present, faults := faults, pass := none } } }).setLamp .a
      fun l => { l with claim := claim }

def release : Operation := { Operation.new .release 0 (.host ticket0) false with phase := .rotate }

theorem test_met_RotationEnds :
    (atWork release (some 0)).Ok ∧ ((atWork release (some 0)).blk.deck .a).op? = some release ∧
    ((atWork release (some 0)).blk.deck .a).rotateEndDue = true ∧ release.abortHeld = false ∧
    (∀ n ∈ [3, 4], ∀ c ∈ [true, false], let s := arrived (change .rotate none none) n c
      s.Ok ∧ (s.blk.deck .a).op? = some (change .rotate none none) ∧ (s.blk.deck .a).rotateEndDue = true ∧
      s.blk.unconcerned .a ∧ (s.blk.lamp .a).claim = c ∧ (s.blk.deck .a).gateMade = false ∧
      (s.blk.lamp .a).output = 0 ∧ (s.blk.lamp .a).fade = none) ∧
    ((atWork (change .rotate (some .forward) (some 250)) (some 0)).blk.deck .a).rotateEndDue = false ∧
    (∀ q ∈ [Pairing.single, Pairing.mirror], ∀ b ∈ [true, false],
      let s := (atWork (scanning 0) (some 0)).setPres fun p => { p with pairing := q, censusB := b }
      s.Ok ∧ (s.blk.deck .a).scanDue = true ∧ s.blk.pres.census .b = b ∧ s.blk.pres.pairing = q) ∧
    (compareMaps (homed .empty 0) (homed .empty 0)).total = 0 := by
  decide +kernel

/-- The two maps differ in slot 1. -/
def unlike : State := ((arrived (scanning 0) 0 false).setDeck .b fun x => { x with map := some { freshMap .long with
  slots := (freshMap .long).slots.set 1 { presence := .empty, faults := 0, pass := none } } }).setPres fun p =>
    { p with pairing := .mirror, censusB := true }

theorem test_met_RotationEnds_mismatch :
    unlike.Ok ∧ (unlike.blk.deck .a).scanDue = true ∧ unlike.blk.pres.pairing = .mirror ∧
    unlike.blk.pres.census .b = true ∧ 0 < (compareMaps unlike.blk.deckA unlike.blk.deckB).total := by
  decide +kernel

theorem test_met_GateEvents :
    trays.Ok ∧ (trays.blk.deck .a).op? = none ∧
    (let s := atWork (change .lift none (some 500)) (some 0)
     s.Ok ∧ (s.blk.deck .a).op? = some (change .lift none (some 500)) ∧ (s.blk.deck .a).map = some (freshMap .short)) ∧
    (let s := arrived (change .drop none (some 1)) 3 true
     s.Ok ∧ (s.blk.deck .a).op? = some (change .drop none (some 1)) ∧ (s.blk.deck .a).gateMade = false ∧
     (s.blk.deck .a).mayDrop 1 = true ∧ (s.blk.lamp .a).claim = true ∧ (s.blk.lamp .a).output = 0 ∧
     (s.blk.lamp .a).fade = none ∧ s.blk.pres.transition = none) := by
  decide +kernel

/-- The end of a CHANGE at a ladder stage, for the preload of frame 1. -/
def settling (stage faults : Nat) : State :=
  (arrived { change .settle none (some 1) with stage := stage } faults true).setPres fun p =>
    { p with preload := some { frame := 1, deck := .a, state := .inFlight } }

theorem test_met_SettleEnd : ∀ stage ∈ [0, 2, 3, 4], ∀ faults ∈ [3, 7], let s := settling stage faults
    s.Ok ∧ s.blk.noFade ∧ (s.blk.deck .a).op? = some { change .settle none (some 1) with stage := stage } ∧
    (s.blk.deck .a).position = some 1 ∧ s.blk.pres.transition = none ∧ s.blk.pres.stopped .a = false ∧
    s.blk.pres.preload = some { frame := 1, deck := .a, state := .inFlight } ∧ s.blk.pres.preloadHeld = false ∧
    s.blk.pres.frame? 1 = some (frame .a 1) ∧ (frame .a 1).slot = 1 := by
  decide +kernel

/-- A CHANGE to slot 1 climbs the ladder at a stage, in a phase. -/
def climbing (stage : Nat) (phase : Phase) (drive : Option Direction) (faults : Nat) (made : Bool) : State :=
  (arrived { change phase drive (some 1) with stage := stage } faults true).setDeck .a fun x => { x with gateMade := made }

/-- What the statement asks of each of these states. -/
def ladderOk (s : State) (stage : Nat) (phase : Phase) (faults : Nat) : Bool :=
  decide (s.Ok ∧ s.blk.noFade ∧ s.blk.unconcerned .a ∧ (s.blk.deckA.op?.map fun op => (op.stage, op.phase)) =
    some (stage, phase) ∧ (s.blk.deckA.map.bind fun m => m.slots[1]?) =
      some { presence := .present, faults := faults, pass := none } ∧ s.blk.lampA.claim = true ∧ s.blk.lampA.output = 0)

theorem test_met_RecoveryLadder :
    (∀ n ∈ [0, 1, 2, 3, 4], ∀ f ∈ [0, 3, 4, 7], ∀ g ∈ [true, false],
      ladderOk (climbing n .drop none f g) n .drop f = true ∧ (climbing n .drop none f g).blk.deckA.gateMade = g) ∧
    (∀ n ∈ [1, 2, 3, 4, 5], ladderOk (climbing n .lift none 3 true) n .lift 3 = true) ∧
    (let s := climbing 3 .seekIndex (some .forward) 3 false
     ladderOk s 3 .seekIndex 3 = true ∧ s.blk.deckA.slips ≤ 255 ∧ s.blk.deckA.position = some 1) ∧
    (∀ f ∈ [3, 4], let s := (climbing 3 .rotate none f false)
     ladderOk s 3 .rotate f = true ∧ s.blk.deckA.rotateEndDue = true) := by
  decide +kernel

/-- What follows at the bounds: stage 3 seeks the index, stage 5 marks the slot, and a marked slot ends stage 3. -/
theorem test_ladder :
    after (exec (.dropWatchExpiry .a) (climbing 2 .drop none 3 false)) (fun t =>
      (t.blk.deckA.op?.map fun op => (op.stage, op.phase, op.drive)) == some (3, .seekIndex, some .forward)) = true ∧
    after (exec (.dropWatchExpiry .a) (climbing 4 .drop none 3 false)) (fun t =>
      t.blk.deckA.state == .idle .empty && !t.blk.lampA.claim && t.port.out.length == 1 &&
        (t.blk.deckA.map.bind fun m => m.slots[1]?.map fun r => r.faults) == some 7) = true ∧
    after (exec (.dropWatchExpiry .a) (climbing 3 .drop none 4 false)) (fun t =>
      t.blk.deckA.state == .idle .empty && t.port.out.length == 0) = true := by decide +kernel

/-! ### Show settings, lamps and cooling -/

/-- The show stands at frame 1 with its lamp lit at a level. -/
def lit (level : Nat) : State := (r0.setPres showing).setLamp .a fun l =>
  { l with state := .lit, inhibit := none, commanded := level, granted := level, output := level }

theorem test_met_ShowSettings :
    r0.Takes 0x37 ∧ (7 : Byte).toNat ≤ 7 ∧ 7 < (8 : Byte).toNat ∧ r0.Takes 0x38 ∧ (9 : Byte).toNat < 10 ∧
    100 < (101 : Byte).toNat ∧ 10 ≤ (10 : Byte).toNat ∧ (100 : Byte).toNat ≤ 100 ∧ r0.blk.pres.screen = none ∧
    (let s := lit 80
     s.Takes 0x38 ∧ s.blk.noFade ∧ s.blk.pres.state = .showing ∧ s.blk.pres.screen = some { deck := .a, slot := 1 } ∧
     s.blk.pres.granted = none ∧ s.blk.pres.blackout = false ∧ s.blk.pres.hold ≠ .expired ∧
     s.blk.pres.frame? s.blk.pres.current = some (frame .a 1)) ∧
    trays.Takes 0x36 ∧ trays.blk.pres.preload = none ∧ (2 : Byte).toNat ≤ trays.blk.pres.frames.length ∧
    trays.blk.pres.frames.length < (3 : Byte).toNat ∧ (200 : Byte).toNat ≤ 200 ∧ 200 < (201 : Byte).toNat ∧
    (∀ m ∈ [Mode.show, Mode.program], let s := r0.setPres fun p => { p with mode := m }
     s.Takes 0x35 ∧ s.blk.pres.mode = m) ∧
    r0.Takes 0x35 ∧ r0.blk.pres.mode = .setup ∧ pairingOf 1 = some .alternate ∧ r0.blk.pres.state = .empty ∧
    (lit 80).Takes 0x35 ∧ (lit 80).blk.pres.state ≠ .empty ∧ 2 < (3 : Byte).toNat := by
  decide +kernel

/-- Two decks that have both been read, with like maps and with unlike ones. -/
theorem test_met_ShowSettings_compare : ∀ x ∈ [(false, 0), (true, 1)],
    let s := (trays.setDeck .b fun _ => { homed .empty 0 with map := some { freshMap .short with
      slots := (freshMap .short).slots.set 1
        { presence := if x.1 then .present else .unknown, faults := 0, pass := none } } }).setPres fun p =>
          { p with censusA := true, censusB := true }
    s.Takes 0x35 ∧ s.blk.pres.mode = .setup ∧ pairingOf 2 = some .mirror ∧ s.blk.pres.state = .empty ∧
    s.blk.pres.censusA = true ∧ s.blk.pres.censusB = true ∧ s.port.out.length + s.port.reserved + 2 ≤ 24 ∧
    (compareMaps s.blk.deckA s.blk.deckB).total = x.2 := by
  decide +kernel

theorem test_met_ShowSettings_mode :
    r0.Takes 0x34 ∧ 3 < (4 : Byte).toNat ∧ modeOf 0 = some r0.blk.pres.mode ∧ modeOf 3 = some .program ∧
    (∀ m ∈ [Transport.playing, .recording], (r0.setTape fun t => { t with transport := m }).Takes 0x34) ∧
    modeOf 2 = some .show ∧
    (∀ m ∈ [Mode.setup, Mode.show], let s := (r0.setPres fun p => { p with mode := m }).setTape fun t =>
       { t with transport := .stopped }
     s.Takes 0x34 ∧ s.blk.pres.mode = m ∧ s.blk.tape.transport = .stopped ∧ s.blk.tape.held = none) ∧
    (let s := (r0.setPres fun p => { p with mode := .show }).setTape fun t => { t with
       transport := .paused .playing, held := some { kind := .hold, arg := 0, seq := 15, count := 9 } }
     s.Takes 0x34 ∧ s.blk.pres.mode = .show ∧ s.blk.tape.held.isSome = true ∧ s.blk.tape.transport ≠ .playing) := by
  decide +kernel

theorem test_met_HoldTimerExpiry : r0.Ok ∧ r0.blk.pres.hold = .absent ∧
    (∀ l ∈ [40, 41], let s := (lit l).setPres fun p => { p with hold := .running 0 }
     s.Ok ∧ s.blk.pres.hold = .running 0 ∧ s.blk.pres.screen = some { deck := .a, slot := 1 } ∧
     s.blk.pres.state = .showing ∧ s.blk.pres.granted = none ∧ (s.blk.lamp .a).output = l ∧ s.blk.noFade) := by
  decide +kernel

/-- Lamp A stands in a state. -/
def lamp (st : LampState) : State := r0.setLamp .a fun l => { l with state := st, inhibit := none }

theorem test_met_LampCommands :
    (∀ st ∈ [LampState.off, .inhibit, .striking .softStart 1 false, .striking .verify 0 true, .striking .gap 9 false,
      .lit,
       .swapping .strike 5, .dead], let s := lamp st
     s.Takes 0x40 ∧ s.Takes 0x41 ∧ s.Takes 0x42 ∧ s.blk.lcu.power = .active ∧ s.blk.lcu.zone ≠ .critical ∧
     (s.blk.lamp .a).state = st ∧ s.blk.noFade ∧ s.blk.pres.transition = none ∧ (s.blk.lamp .a).onWaiting = [] ∧
     (s.blk.lamp .a).offWaiting = [] ∧ s.blk.pres.levelWait ≠ some .a) ∧
    (lamp .inhibit).blk.lampA.onItsWay = true ∧ r0.Takes 0x40 ∧ r0.blk.lampA.inhibit.isSome = true ∧
    r0.blk.lampA.state = .off ∧
    (∀ p ∈ [Power.cooldown, .standby], (r0.setLcu fun c => { c with power := p }).Takes 0x40) ∧
    (let s := r0.setLcu fun c => { c with readingZone := .critical }
     s.Takes 0x40 ∧ s.blk.lcu.power = .active ∧ s.blk.lcu.zone = .critical) := by
  decide +kernel

/-- LAMP_OFF in the restrike inhibit completes a ramp at once and answers the LAMP_ON that waits. -/
theorem test_lampOff_inhibit :
    after (exec (.lampOff 9 0) ((owing 0x40 (lamp .inhibit)).setLamp .a fun l => { l with
      inhibit := some 8, onWaiting := [ticket0]
      ramp := some { start := 0, target := 50, total := 500, left := 500 } })) (fun t =>
        t.blk.lampA.state == .off && t.blk.lampA.ramp == none && t.blk.lampA.inhibit == some 8 &&
          t.port.out.map (fun r => slotByte r 3) == [1, 0]) = true := by decide +kernel

/-- A replaced lamp serves again once it has been lit (R136). -/
theorem test_lampReplaced :
    after (exec (.lampReplaced 9 0) (lamp .dead)) (fun t => t.blk.lampA.unlit && !t.blk.lampA.servable) = true ∧
    after (exec (.filamentCurrentSeen .a) ((lamp (.striking .verify 9 false)).setLamp .a fun l =>
      { l with unlit := true })) (fun t => t.blk.lampA.servable && t.blk.lampA.isLit) = true := by decide +kernel

theorem test_met_PowerCommands :
    (∀ p ∈ [Power.standby, .cooldown], let s := r0.setLcu fun c => { c with power := p }
     s.Takes 0x45 ∧ s.Takes 0x46 ∧ s.blk.lcu.power = p) ∧
    (let s := (lit 80).setTape fun t => { t with transport := .stopped }
     s.Takes 0x45 ∧ s.Takes 0x46 ∧ s.blk.lcu.power = .active ∧ s.blk.noFade ∧ s.blk.pres.transition = none ∧
     s.blk.pres.granted = none ∧ s.blk.pres.commitDeferred = false ∧ s.blk.tape.transport = .stopped ∧
     s.blk.deckA.changing = false ∧ s.blk.deckB.changing = false ∧ s.blk.lampA.state = .lit ∧
     s.blk.lampA.onWaiting = [] ∧ s.blk.lampA.offWaiting = [] ∧ s.blk.lampB.state = .off ∧
     s.blk.lampB.onWaiting = []) := by
  decide +kernel

theorem test_met_Strike :
    (∀ st ∈ [LampState.striking .softStart 0 true, .striking .softStart 0 false, .striking .verify 0 false,
       .striking .gap 0 false], let s := lamp st
     s.Ok ∧ s.blk.noFade ∧ s.blk.pres.transition = none ∧ (s.blk.lamp .a).state = st ∧
     (s.blk.lamp .a).attempts < 2) ∧
    (let s := (lamp (.striking .verify 0 false)).setLamp .a fun l => { l with attempts := 2 }
     s.Ok ∧ (s.blk.lamp .a).attempts = 2 ∧ (s.blk.lamp .a).active = .primary ∧ (s.blk.lamp .a).spare = .good) ∧
    r0.Ok ∧ (r0.blk.lamp .a).inhibit.isSome = true ∧ (r0.blk.lamp .a).state = .off ∧
    (let s := r0.setLamp .a fun l => { l with state := .inhibit }
     s.Ok ∧ (s.blk.lamp .a).inhibit.isSome = true ∧ (s.blk.lamp .a).state = .inhibit) := by
  decide +kernel

theorem test_met_BurnoutAndSwap :
    (∀ st ∈ [LampState.lit, .off, .swapping .strike 0], let s := lamp st
     s.Ok ∧ s.blk.noFade ∧ s.blk.unconcerned .a ∧ s.blk.pres.levelWait ≠ some .a ∧ (s.blk.lamp .a).state = st ∧
     (s.blk.lamp .a).active = .primary ∧
     (s.blk.lamp .a).spare = .good) ∧
    (let s := (lamp .lit).setLamp .a fun l => { l with active := .spare, primary := .failed }
     s.Ok ∧ s.blk.unconcerned .a ∧ (s.blk.lamp .a).state = .lit ∧ (s.blk.lamp .a).active = .spare ∧
     (s.blk.lamp .a).primary = .failed ∧ (s.blk.lamp .a).onWaiting = [] ∧ (s.blk.lamp .a).offWaiting = []) := by
  decide +kernel

/-- The lamp on screen ramps towards its level with some time left. -/
def ramping (left : Nat) : State := (lit 40).setLamp .a fun l =>
  { l with commanded := 100, ramp := some { start := 40, target := 100, total := 600, left := left } }

/-- The LIFT of deck A waits for the dark fade of its lamp. -/
def fading : State := (atWork (change .lift none none) (some 0)).setDeck .a (fun x => { x with gateMade := true }) |>.setLamp
  .a fun l => { l with state := .lit, claim := true, fade := some { start := 80, left := 0 }, granted := 80, output := 80 }

/-- Both lamps are LIT, on their way to 100 each, in a zone. -/
def bothLit (z : Zone) : State := ((ramping 600).setLamp .b fun l => { l with
  state := .lit, inhibit := none, granted := 10, output := 10, commanded := 100
  ramp := some { start := 10, target := 100, total := 600, left := 300 } }).setLcu fun c =>
    { c with readingZone := z, startupHold := false }

theorem test_met_Ramps_twoLit : ∀ z ∈ [Zone.normal, .warm, .hot], let s := bothLit z
    s.Ok ∧ s.blk.noFade ∧ s.blk.lcu.priority = .a ∧ (s.blk.lamp .a).state = .lit ∧ (s.blk.lamp .a).claim = false ∧
    (s.blk.lamp .b).state = .lit ∧ (s.blk.lamp .b).claim = false := by decide +kernel

/-- The priority lamp takes its 42 of the budget of 100 first, and the other the 58 that its line asks for. -/
theorem test_twoLit : after (exec .rampStep (bothLit .hot)) (fun t =>
    t.blk.lampA.granted == 42 && t.blk.lampB.granted == 58 && t.blk.lampA.output == 42 && t.blk.lampB.output == 13) =
      true := by decide +kernel

theorem test_met_Ramps :
    (∀ n ∈ [20, 600], let s := ramping n
     s.Ok ∧ s.blk.noFade ∧ s.blk.lcu.priority = .a ∧ (s.blk.lamp .a).state = .lit ∧ (s.blk.lamp .a).claim = false ∧
     (s.blk.lamp .a).ramp = some { start := 40, target := 100, total := 600, left := n } ∧
     (s.blk.lamp .b).state = .off ∧ (s.blk.lamp .a).rampDone = false) ∧
    (let s := (lit 100).setLamp .a fun l => { l with ramp := some { start := 40, target := 100, total := 600, left := 0 } }
     s.Ok ∧ (s.blk.lamp .a).rampDone = true ∧ s.blk.noFade ∧ s.blk.pres.transition = none ∧
     s.blk.pres.levelWait ≠ some .a) ∧
    (let s := ((owing 0x33 (lit 100)).setLamp .a fun l =>
         { l with ramp := some { start := 40, target := 100, total := 600, left := 0 } }).setPres fun p =>
       { p with
         levelWait := some .a
         granted := some { source := .cport, kind := .dark, arg := some 0, ticket := some ticket0 } }
     s.Ok ∧ (s.blk.lamp .a).rampDone = true ∧ s.blk.noFade ∧ s.blk.pres.levelWait = some .a ∧
     s.blk.pres.frozen = false ∧ s.blk.pres.mode = .setup ∧
     s.blk.pres.granted = some { source := .cport, kind := .dark, arg := some 0, ticket := some ticket0 }) ∧
    fading.Ok ∧ (fading.blk.lamp .a).fade = some { start := 80, left := 0 } ∧ (fading.blk.lamp .a).claim = true ∧
    (fading.blk.lamp .b).fade = none ∧ (fading.blk.deck .a).op? = some (change .lift none none) ∧
    (fading.blk.deck .a).gateMade = true := by
  decide +kernel

/-- A crossing in SINGLE pairing from the dark to frame 1 waits for lamp A. -/
def crossing (awaitOut : Bool) (outgoing : Option DeckId) : State :=
  ((owing 0x32 (r0.setPres twoFrames)).setLamp .a fun l =>
    { l with
      state := .lit, inhibit := none, commanded := 100, output := 100, granted := 100
      ramp := some { start := 0, target := 100, total := 600, left := 0 } }).setPres fun p =>
    { p with
      pairing := .single, granted := some goto1
      transition := some { target := 1, cls := 2, excludedA := none, excludedB := none, serving := some .a
                           reselected := false, tookOver := false, past := true, lampLost := false, behindStop := false
                           stand := .crossing { outgoing := outgoing, incoming := some .a, awaitOut := awaitOut
                                                awaitIn := true, dark := none, held := false } } }

/-- The incoming lamp of a crossing is put out while the outgoing one still stands at its level: the crossing restarts,
and still waits for the outgoing ramp (R85, R122). -/
theorem test_lampOff_crossing :
    let s := ((crossing true (some .b)).setPres fun p => { p with current := 2 }).setLamp .b fun l => { l with
      state := .lit, inhibit := none, commanded := 100, output := 100, granted := 100
      ramp := some { start := 100, target := 0, total := 1000, left := 1000 } }
    after (exec (.lampOff 7 0) s) (fun t => (t.blk.pres.transition.map fun x => x.stand) == some (.crossing
      { outgoing := some .b, incoming := some .a, awaitOut := true, awaitIn := false, dark := none, held := false })) =
      true := by decide +kernel

/-- The ramp of lamp A is complete in a transition to frame 1 or EMPTY; the show stands at frame 1 or nowhere. -/
def arriving (n : Nat) (tr : Transition) : State := (crossing false none).setPres fun p => { p with
  transition := some { tr with target := n }
  current := if n = 1 then 0 else 1, screen := if n = 1 then none else some { deck := .a, slot := 1 } }

theorem test_met_Arrival :
    (∀ x ∈ [(1, { trans .fadeIn (some .a) with reselected := true }), (1, trans .fadeIn (some .a)),
        (1, trans (.crossing { outgoing := none, incoming := some .a, awaitOut := false, awaitIn := true
                               dark := none, held := false }) (some .a)),
        (1, trans (.crossing { outgoing := some .a, incoming := some .a, awaitOut := true, awaitIn := true
                               dark := none, held := false }) (some .a)),
        (2, trans (.crossing { outgoing := some .a, incoming := none, awaitOut := true, awaitIn := false
                               dark := some .darkBad, held := false }) none),
        (0, trans (.crossing { outgoing := some .a, incoming := none, awaitOut := true, awaitIn := false
                               dark := none, held := false }) none)],
      let s := arriving x.1 x.2
      s.Ok ∧ s.blk.noFade ∧ (s.blk.lamp .a).rampDone = true ∧ s.blk.pres.frozen = false ∧
      s.blk.pres.pairing = .single ∧ s.blk.pres.mode = .setup ∧ s.blk.pres.commitDeferred = false ∧
      s.blk.pres.levelWait = none ∧ s.blk.pres.granted = some goto1 ∧ s.blk.pres.frame? 1 = some (frame .a 1) ∧
      s.blk.pres.transition = some { x.2 with target := x.1 }) := by
  decide +kernel

/-- The end of the fade-out and of the CHANGE of a CHANGING transition, from slot 5 to slot 1 of deck A. -/
theorem test_met_Arrival_changing :
    (let s := ((arriving 1 (trans .fadeOut (some .a))).setLamp .a fun l => { l with
         commanded := 0, granted := 0, output := 0, ramp := some { start := 80, target := 0, total := 500, left := 0 } }
       ).setDeck .a fun _ => { homed (.loaded 5) 5 with gateMade := true }
     s.Ok ∧ s.blk.noFade ∧ (s.blk.lamp .a).rampDone = true ∧ s.blk.pres.stopped .a = false ∧
     (s.blk.lamp .a).claim = false ∧ s.blk.pres.frame? 1 = some (frame .a 1) ∧ 1 < (freshMap .short).size) ∧
    (let s := ((arriving 1 (trans .change (some .a))).setLamp .a fun l => { l with
         commanded := 0, granted := 0, output := 0, ramp := none, claim := true }).setDeck .a fun _ =>
       working (change .settle none (some 1)) (some 1)
     s.Ok ∧ s.blk.noFade ∧ s.blk.deckA.op? = some (change .settle none (some 1)) ∧ s.blk.deckA.position = some 1 ∧
     s.blk.pres.preload = none ∧ s.blk.pres.stopped .a = false ∧ s.blk.lampA.state = .lit ∧ s.blk.lampA.output = 0 ∧
     1 ≠ s.blk.pres.current ∧ s.blk.pres.blackout = false ∧ (frame .a 1).level * s.blk.pres.master / 100 ≠ 0) := by
  decide +kernel

/-- A CHANGE of deck A to slot 1 fails for frame 1 of a PENDING transition: at its arrival, or at ladder stage 2. Deck B
stands at position 5, its lamp lit at 80 or off. -/
def failing (pairing : Pairing) (stage : Nat) (screen : Bool) (x : Deck) : State :=
  ((((arriving 1 (trans .pending (some .a))).setDeck .a fun _ => working { change (if stage = 0 then .rotate else .drop)
    none (if stage = 0 then none else some 1) with stage := stage } (some 1)).setDeck .b fun _ => x).setLamp .b fun l =>
      if screen then { l with state := .lit, inhibit := none, commanded := 80, granted := 80, output := 80 } else l).setPres
        (fun p => { p with pairing := pairing, screen := if screen then some { deck := .b, slot := 5 } else none }) |>.setLcu
          fun c => { c with priority := .b }

/-- What the statement asks of each of these states. -/
def failingOk (s : State) : Bool :=
  decide (s.Ok ∧ s.blk.noFade ∧ s.blk.deckA.changing = true ∧ s.blk.pres.frozen = false ∧
    s.blk.pres.transition = some { trans .pending (some .a) with target := 1 } ∧
    s.blk.pres.frame? 1 = some (frame .a 1) ∧ s.blk.pres.stopped .a = false ∧ s.blk.pres.stopped .b = false ∧
    s.blk.pres.preload = none ∧ s.blk.pres.levelWait = none ∧ s.blk.pres.mode = .setup ∧
    s.blk.pres.commitDeferred = false ∧ s.blk.pres.granted = some goto1 ∧ s.blk.deckA.gateMade = false ∧
    s.blk.lampA.claim = false ∧ s.blk.lampB.claim = false ∧ s.blk.lampB.isDead = false ∧ s.blk.lampB.unlit = false)

theorem test_met_FailedChange :
    (∀ q ∈ [Pairing.single, .alternate, .mirror], ∀ b ∈ [true, false],
      ∀ x ∈ [homed .empty 5, { homed (.loaded 5) 5 with gateMade := true }],
      let s := failing q 0 b x
      failingOk s = true ∧ s.blk.deckA.rotateEndDue = true ∧ s.blk.deckB = x ∧
      (b = true → s.blk.lampB.state = .lit ∧ s.blk.lampB.output = 80 ∧ s.blk.lampB.output ≤ s.blk.lampB.demand ∧
        s.blk.lcu.priority = .b)) ∧
    (∀ x ∈ [homed .empty 5, { homed .empty 5 with inService := false }], let s := failing .mirror 2 true x
     failingOk s = true ∧ s.blk.deckB = x ∧ (s.blk.deckA.op?.map fun op => (op.stage, op.phase, op.watch)) =
       some (2, .drop, some 1)) ∧
    (freshMap .short).slots[1]? = some { presence := .unknown, faults := 0, pass := none } := by
  decide +kernel

/-- What follows: a dark arrival, the fade of the lamp on screen, and the twin's CHANGING and CHANGE. -/
theorem test_failedChange :
    (let stand (t : State) := t.blk.pres.transition.map fun x => (x.serving, x.reselected)
     after (exec (.rotateDistanceEnd .a false) (failing .single 0 false (homed .empty 5))) (fun t =>
       t.blk.pres.service == .darkEmpty && t.blk.pres.current == 1 && t.port.out.length == 2) = true ∧
     after (exec (.rotateDistanceEnd .a false) (failing .alternate 0 true (homed .empty 5))) (fun t =>
       stand t == some (none, true) && t.blk.lampB.commanded == 0) = true ∧
     after (exec (.rotateDistanceEnd .a false) (failing .mirror 0 false (homed .empty 5))) (fun t =>
       stand t == some (some .b, true) && t.blk.deckB.changing) = true ∧
     after (exec (.dropWatchExpiry .a) (failing .mirror 2 true (homed .empty 5))) (fun t =>
       stand t == some (some .b, true) && (t.blk.deckA.op?.map fun op => op.stage) == some 3) = true) := by
  decide +kernel

/-- The show of frame 1 with its lamp lit, in a state of the show. -/
def beforeFrozen (f : Pres → Pres) : State := (owing 0x33 (lit 80)).setPres f

/-- The show is FROZEN by a fan fault that may clear; lamp A is owed a relight. -/
def afterFrozen (inhibit : Option Nat) (x : Deck) (f : Pres → Pres) : State :=
  ((((r0.setPres fun p => f { showing p with frozen := true }).setDeck .a fun _ => x).setLamp .a fun l => { l with
    relightOwed := true, inhibit := inhibit }).setLamp .b fun l => { l with commanded := 50 }).setLcu fun c =>
      { c with fanFault := true, tachSeen := true }

theorem test_met_Frozen_entry :
    (∀ z ∈ [Zone.normal, .warm, .hot], ∀ g ∈ [none, some (motion .dark (some 0))], ∀ tr ∈ [none, some (trans .pending (some .b))],
      let s := ((beforeFrozen fun p => { p with granted := g, transition := tr }).setDeck .b fun _ =>
        working { change .rotate (some .forward) (some 9) with target := 2 } (some 5)).setLcu fun c => { c with readingZone := z }
      s.Ok ∧ s.blk.noFade ∧ s.blk.lcu.fanWatch.isSome = true ∧ s.blk.lcu.fanFault = false ∧
      s.blk.pres.frozen = false ∧ s.blk.pres.state ≠ .empty ∧ s.blk.lampA.state = .lit ∧ s.blk.lampA.onWaiting = [] ∧
      s.blk.lampA.offWaiting = [] ∧ s.blk.lampB.state = .off ∧ s.blk.lampB.ramp = none ∧ s.blk.deckB.changing = true ∧
      s.blk.pres.stopped .b = false ∧ s.blk.pres.mode ≠ .program) := by
  decide +kernel

theorem test_met_Frozen_exit :
    (∀ h ∈ [none, some 1], ∀ x ∈ [(homed (.loaded 1) 1, { trans .pending (some .a) with target := 1 }),
        (homed .empty 63, { trans .pending (some .a) with target := 1 }),
        (homed (.loaded 1) 1, { trans .returnFade (some .a) with target := 2 })],
      let s := afterFrozen h x.1 fun p => { p with
        pairing := .alternate, transition := some x.2
        screen := if x.2.target = 1 then none else p.screen }
      let q := afterFrozen h x.1 fun p => { p with pairing := .single }
      (s.Ok ∧ s.blk.noFade ∧ s.blk.lcu.readingZone ≠ .critical ∧ s.blk.pres.frozen = true ∧ s.blk.pres.levelWait = none ∧
        s.blk.lcu.power = .active ∧ s.blk.lampA.state = .off ∧ s.blk.lampB.state = .off ∧
        s.blk.lampB.relightOwed = false ∧ s.blk.lampA.relightOwed = true ∧ s.blk.lcu.fanFault = true ∧
        s.blk.lcu.tachSeen = true ∧ s.blk.pres.frame? 1 = some (frame .a 1) ∧ s.blk.deckA = x.1 ∧
        s.blk.lampA.unlit = false ∧ s.blk.deckA.inService = true ∧ s.blk.pres.stopped .a = false ∧
        s.blk.deckA.gateMade = false ∧ s.blk.pres.current = 1) ∧
      (q.Ok ∧ q.blk.pres.transition = none ∧ q.blk.pres.screen = some { deck := .a, slot := 1 })) := by
  decide +kernel

/-- What follows: the STOP and the relight owed at the entry, and the three ways on at the exit. -/
theorem test_frozen :
    (let t0 : Transition := { trans .pending (some .a) with target := 1 }
     let dark (p : Pres) : Pres := { p with transition := some t0, screen := none }
     after (exec .fanTachTimeout ((beforeFrozen id).setDeck .b fun _ => working { change .lift none none with target := 2 }
       (some 5))) (fun t => t.blk.pres.frozen && t.blk.lampA.relightOwed && t.blk.pres.stopB) = true ∧
     after (exec .fanFaultClear (afterFrozen none (homed .empty 63) dark)) (fun t =>
       t.blk.deckA.changing && !t.blk.pres.frozen && t.blk.lampA.onItsWay) = true ∧
     after (exec .fanFaultClear (afterFrozen (some 1) (homed (.loaded 1) 1) dark)) (fun t =>
       (t.blk.pres.transition.any fun x => match x.stand with | .crossing c => c.held | _ => false) &&
         t.blk.lampA.state == .inhibit) = true) := by decide +kernel

/-- The arrival, carried out. -/
theorem test_arrival : after (exec (.rampCompletion .a) (crossing false none)) (fun t =>
    t.blk.pres.current == 1 && t.blk.pres.screen == some { deck := .a, slot := 1 } &&
      t.blk.pres.hold == .running 30000 && t.port.out.length == 1) = true := by decide +kernel

/-- A reading of another sensor stands, in a zone. -/
def warmed (v : Nat) (z : Zone) (s : State) : State := s.setLcu fun c =>
  { c with sensor1 := { reading := some v, silent := false, quiet := 0 }, readingZone := z, startupHold := false }

theorem test_met_Temperature :
    (∀ x ∈ [(69, Zone.normal), (70, .normal), (66, .warm), (65, .warm), (84, .warm), (85, .warm), (94, .hot), (90,
      .critical)],
      let s := warmed x.1 x.2 r0
      s.Ok ∧ s.blk.noFade ∧ s.blk.lcu.power = .active ∧ s.blk.lcu.startupHold = false ∧ s.blk.lcu.zone = x.2 ∧
      (s.blk.lcu.setSensor 0 { reading := some (20 : Byte).toNat, silent := false, quiet := 0 }).highest = some x.1) ∧
    (150 : Byte).toNat ≤ 150 ∧
    (let s := warmed 94 .hot (lamp .lit)
     s.Ok ∧ s.blk.noFade ∧ s.blk.lcu.zone = .hot ∧ s.blk.pres.state = .empty ∧ s.blk.pres.levelWait ≠ some .a ∧
     s.blk.lampA.state = .lit ∧
     s.blk.lampA.onWaiting = [] ∧ s.blk.lampA.offWaiting = [] ∧ s.blk.lampB.state = .off ∧
     (s.blk.lcu.setSensor 0 { reading := some (95 : Byte).toNat, silent := false, quiet := 0 }).highest = some 95) ∧
    (let s := warmed 95 .critical r0
     s.Ok ∧ (s.blk.lcu.sensor 0).silent = false ∧ s.blk.lcu.zone = .critical) ∧
    (let s := (warmed 20 .critical r0).setLcu fun c => { c with sensor0 := { c.sensor0 with silent := true } }
     s.Ok ∧ s.blk.lcu.power = .active ∧ s.blk.lcu.startupHold = false ∧ (s.blk.lcu.sensor 0).silent = true) := by
  decide +kernel

theorem test_met_FanAndCooldown :
    r0.Ok ∧ r0.blk.noFade ∧ r0.blk.lcu.fan ≠ .off ∧ r0.blk.lcu.fanWatch.isSome = true ∧ r0.blk.lcu.fanFault = false ∧
    r0.blk.lcu.readingZone ≠ .critical ∧ r0.blk.lampA.state = .off ∧ r0.blk.lampB.state = .off ∧
    r0.blk.pres.state = .empty ∧ r0.blk.lcu.power ≠ .cooldown ∧
    (let s := r0.setLcu fun c => { c with fan := .off, fanWatch := none }
     s.Ok ∧ s.blk.lcu.fan = .off) ∧
    (let s := r0.setLcu fun c => { c with fanFault := true, tachSeen := true }
     s.Ok ∧ s.blk.lcu.fanWatch.isSome = true ∧ s.blk.lcu.fanFault = true ∧ s.blk.lcu.tachSeen = true ∧
     s.blk.lcu.readingZone ≠ .critical ∧ s.blk.pres.frozen = false ∧ s.blk.lampA.relightOwed = false ∧
     s.blk.lampB.relightOwed = false) ∧
    (let s := (warmed 49 .normal r0).setLcu fun c => { c with power := .cooldown }
     s.Ok ∧ s.blk.lcu.power = .cooldown ∧
     ∀ i, (s.blk.lcu.sensor i).silent = false ∧ ∀ v ∈ (s.blk.lcu.sensor i).reading, v < 50) := by
  decide +kernel

/-- Every row of the table of fan speeds: a fan fault, a hot zone, COOLDOWN, the start-up hold, a warm zone,
  outputs above
100 together, a lamp that burns, a sensor at 50, and none of these. -/
theorem test_fanRows :
    ([(State.setLcu (warmed 20 .normal r0) fun c => { c with fanFault := true }, Fan.full),
      (warmed 20 .hot r0, .full), (warmed 20 .critical r0, .full),
      (State.setLcu (warmed 20 .normal r0) fun c => { c with power := .cooldown }, .full), (r0, .full),
      (warmed 20 .warm r0, .high),
      (State.setLamp (warmed 20 .normal (lit 100)) .b fun l =>
        { l with state := .lit, granted := 1, output := 1, commanded := 1 }, .medium),
      (warmed 20 .normal (lit 100), .low), (warmed 20 .normal (lamp (.striking .softStart 9 false)), .low),
      (warmed 50 .normal r0, .low), (warmed 49 .normal r0, .off)].all fun x =>
        decide (x.1.Ok ∧ x.1.blk.noFade) && after (exec .rampStep x.1) fun t => t.blk.lcu.fan == x.2) = true := by
  decide +kernel

/-! ### Tape -/

/-- The tape unit stands in a transport state. -/
def tape (tr : Transport) (f : Tape → Tape) : State := r0.setTape fun t => f { t with transport := tr, present := true }

def heldCue (kind : CueKind) : HeldCue := { kind := kind, arg := 0, seq := 15, count := 9 }

/-- A cue is held. -/
def cueHeld (kind : CueKind) : State := tape (.paused .playing) fun t => { t with held := some (heldCue kind) }

theorem test_met_TapeZero :
    (∀ tr ∈ [Transport.noTape, .stopped, .paused .playing, .paused .recording], let s := tape tr id
     s.Takes 0x55 ∧ s.blk.tape.transport = tr ∧ s.blk.tape.held = none) ∧
    (∀ tr ∈ [Transport.playing, .recording, .windingFwd, .windingRev], let s := tape tr id
     s.Takes 0x55 ∧ s.blk.tape.inMotion = true) ∧
    (cueHeld .hold).Takes 0x55 ∧ (cueHeld .hold).blk.tape.transport = .paused .playing ∧
    (cueHeld .hold).blk.tape.held ≠ none := by
  decide +kernel

def runOut (falls : Nat) : State := tape .playing fun t => { t with runOut := some { left := 0, falls := falls } }

theorem test_met_TapeSettingsAndSound :
    r0.Takes 0x56 ∧ 1 < (2 : Byte).toNat ∧ r0.Takes 0x5D ∧ (31 : Byte).toNat ≤ 31 ∧ 31 < (32 : Byte).toNat ∧
    r0.Takes 0x5E ∧ r0.Ok ∧ r0.blk.tape.runOut = none ∧ r0.blk.tape.winding = false ∧
    (∀ n ∈ [0, 1], (runOut n).Ok ∧ (runOut n).blk.tape.runOut = some { left := 0, falls := n } ∧
      (runOut n).blk.tape.transport = .playing ∧ (runOut n).blk.tape.held = none ∧ (runOut n).blk.tape.pass = none ∧
      (runOut n).blk.tape.motionWaiting = none ∧ (runOut n).blk.tape.pausePending = false ∧
      (runOut n).blk.tape.pauseWaiting = []) := by
  decide +kernel

theorem test_met_TapeMotion :
    (∀ tr ∈ [Transport.noTape, .stopped, .playing, .paused .playing, .recording], ∀ m ∈ [Mode.setup, .program],
      let s := (tape tr id).setPres fun p => { p with mode := m }
      (∀ c ∈ [0x50, 0x51, 0x52, 0x53, 0x54], s.Takes c) ∧ s.blk.tape.transport = tr ∧ s.blk.tape.held = none ∧
      s.blk.tape.pass = none ∧ s.blk.tape.motionWaiting = none ∧ s.blk.tape.pausePending = false ∧
      s.blk.tape.pauseWaiting = [] ∧ s.blk.tape.leader = .none ∧ s.blk.tape.runOut = none ∧ s.blk.pres.mode = m ∧
      s.blk.tape.writing = none) ∧
    (let s := tape .stopped fun t => { t with leader := .tail }
     s.Takes 0x50 ∧ s.blk.tape.leader = .tail) ∧
    (cueHeld .hold).Takes 0x50 ∧ (cueHeld .hold).Takes 0x53 ∧ (cueHeld .hold).blk.tape.leader = .none ∧
    (cueHeld .hold).blk.tape.held ≠ none ∧ (cueHeld .hold).blk.tape.transport ≠ .noTape ∧
    (let s := tape .recording fun t => { t with writing := some {
       cue := { kind := .hold, arg := 0, frameAfter := 0, ticket := none }, seq := 0, word := encodeWord 7 0 0,
         start := 4, inMap := true
       countsLeft := 4 } }
     s.Takes 0x52 ∧ s.blk.tape.transport = .recording ∧ s.blk.tape.writing ≠ none) ∧
    1 < (2 : Byte).toNat := by
  decide +kernel

/-- A wound tape stands at the count of the last entry of its map. -/
def wound : State := (tape .stopped fun t => { t with wound := true, count := 8, map := [entry 4 0, entry 8 15,
  entry 9 2] }).setPres
  fun p => { p with mode := .show }

/-- A way into PLAYING: the transport, the cue held, the show mode, the entries of the map and the chase option. -/
def entering (tr : Transport) (held : Bool) (m : Mode) (entries : Nat) (chase : Bool) : State :=
  (wound.setTape fun t => { t with
    transport := tr, held := if held then some (heldCue .hold) else none, map := t.map.drop (3 - entries)
    count := if entries = 1 then 8 else t.count, chase := chase }).setPres fun p => { p with mode := m }

theorem test_met_Chase :
    (∀ c ∈ [true, false], ∀ n ∈ [0, 1, 3], ∀ x ∈ [(Transport.stopped, false, Mode.show), (.paused .playing, false, .show),
        (.paused .recording, false, .show), (.paused .playing, true, .show), (.playing, false, .setup),
        (.playing, false, .manual)],
      let s := entering x.1 x.2.1 x.2.2 n c
      s.Takes 0x50 ∧ s.Takes 0x53 ∧ s.Takes 0x58 ∧ s.Takes 0x34 ∧ s.blk.tape.transport = x.1 ∧
      s.blk.tape.held.isSome = x.2.1 ∧ s.blk.tape.leader ≠ .tail ∧ s.blk.tape.pass = none ∧
      s.blk.tape.motionWaiting = none ∧ s.blk.tape.wound = true ∧ s.blk.tape.chase = c ∧
      (s.blk.tape.map.filter fun e => decide (e.count ≤ s.blk.tape.count)).getLast? =
        (if n = 3 then some (entry 8 15) else none) ∧
      s.arb.authority.cue.motion = true ∧ s.port.out.length + s.port.reserved + 2 ≤ 24) := by
  decide +kernel

/-- What follows: the entry at the count itself is the last, and the expected sequence wraps; with none, or with the
option off, it is ANY. -/
theorem test_chase :
    after (exec (.tapePlay 7) (entering .stopped false .show 3 true)) (fun t =>
      t.arb.cue.map (fun r => (r.kind, r.arg)) == [(.chase, some 2)] && t.blk.tape.expected == some 0 &&
        t.port.out.length == 1 && !t.blk.tape.wound) = true ∧
    after (exec (.setMode 7 2) (entering .playing false .manual 1 true)) (fun t =>
      t.arb.cue == [] && t.blk.tape.expected == none && t.port.out.length == 2) = true ∧
    after (exec (.cueDiscardHeld 7) (entering (.paused .playing) true .show 3 false)) (fun t =>
      t.blk.tape.held == none && t.blk.tape.expected == none && t.port.out.length == 0) = true := by decide +kernel

/-- A map of some length. -/
def mapped (n : Nat) : State := tape .stopped fun t => { t with map := (List.range n).map fun k => entry k 0 }

theorem test_met_CueMap :
    r0.Takes 0x5A ∧ 8 < (9 : Byte).toNat ∧ (8 : Byte).toNat ≤ 8 ∧ (mapped 2).Takes 0x5A ∧
    (mapped 2).blk.tape.map.length < (3 : BitVec 16).toNat ∧ (2 : BitVec 16).toNat ≤ (mapped 2).blk.tape.map.length ∧
    (0 : BitVec 16).toNat = 0 ∧ (0 : Byte).toNat = 0 ∧
    (∀ n ∈ [2, 255, 256], (mapped n).Takes 0x5B ∧ (mapped n).Takes 0x5C ∧ (mapped n).blk.tape.pass = none ∧
      (mapped n).blk.tape.map.length = n ∧ (mapped n).blk.tape.map.getLast? = some (entry (n - 1) 0)) ∧
    ¬ (15 < (15 : Byte).toNat ∨ (11 : Byte).toNat < 1 ∨ 11 < (11 : Byte).toNat ∨ 200 < (200 : Byte).toNat ∨
       (256 : BitVec 16).toNat ≤ (entry 255 0).count) ∧
    cueKindOf (1 : Byte).toNat = some .advance ∧ cueKindOf (11 : Byte).toNat = some .fin ∧
    15 < (16 : Byte).toNat ∧ 200 < (201 : Byte).toNat ∧
    (let s := tape .recording fun t => { t with pass := some { wrote := false, next := none } }
     s.Takes 0x5B ∧ s.Takes 0x5C ∧ s.blk.tape.pass ≠ none) := by
  decide +kernel

theorem test_met_HeldCueCommands :
    r0.Takes 0x57 ∧ r0.Takes 0x58 ∧ r0.blk.tape.held = none ∧
    (let s := (cueHeld .hold).setTape fun t => { t with leader := .tail }
     s.Takes 0x57 ∧ s.Takes 0x58 ∧ s.blk.tape.leader = .tail) ∧
    (∀ k ∈ [CueKind.advance, .hold], ∀ m ∈ [Mode.show, .setup],
      let s := ((cueHeld k).setPres fun p => { p with mode := m }).setTape fun t => { t with wound := false }
      s.Takes 0x57 ∧ s.Takes 0x58 ∧ s.blk.tape.held = some (heldCue k) ∧ s.blk.tape.leader ≠ .tail ∧
      s.blk.tape.transport = .paused .playing ∧ s.blk.tape.motionWaiting = none ∧ s.blk.tape.taken ≤ 255 ∧
      s.blk.pres.mode = m ∧ s.arb.authority.cue.motion = true ∧ s.arb.authority.cue.tape = true ∧
      s.arb.cue.length < 8 ∧ s.blk.tape.wound = false) := by
  decide +kernel

def owed : OwedCue := { kind := .mark, arg := 255, frameAfter := 0, ticket := some ticket0 }

/-- A word is being written, with some counts left. -/
def writing (left : Nat) : WritingWord :=
  { cue := owed, seq := 3, word := encodeWord 10 255 3, start := 8, inMap := true, countsLeft := left }

/-- A pass is open that has written a word. -/
def recording (f : Tape → Tape) : State := (tape .recording fun t => f { t with
  pass := some { wrote := true, next := some 15 }, count := 9, map := [entry 8 14] }).setPres fun p =>
    { p with mode := .program }

theorem test_met_Recording :
    r0.Takes 0x59 ∧ insertable 1 0 = none ∧ insertable 10 255 = some (.mark, 255) ∧
    r0.blk.pres.mode = .setup ∧
    (let s := r0.setPres fun p => { p with mode := .program }
     s.Takes 0x59 ∧ s.blk.pres.mode = .program ∧ s.blk.tape.transport = .noTape) ∧
    (∀ h ∈ [none, some owed], ∀ w ∈ [none, some (writing 4)],
      let s := recording fun t => { t with holding := h, writing := w }
      s.Takes 0x59 ∧ s.blk.pres.mode = .program ∧ s.blk.tape.transport = .recording ∧ s.blk.tape.holding = h ∧
      s.blk.tape.writing = w ∧ s.blk.pres.granted = none ∧
      s.blk.tape.pass = some { wrote := true, next := some 15 } ∧ s.blk.tape.map.getLast? = some (entry 8 14) ∧
      (entry 8 14).count < s.blk.tape.count ∧ s.blk.tape.map.length < 256) ∧
    (∀ x ∈ [(Source.cport, true), (.link, true), (.remote, true), (.cue, false)],
      let s := (recording id).setPres fun p => { p with
        granted := some { source := x.1, kind := .advance, arg := none, ticket := none } }
      s.Takes 0x59 ∧ s.blk.pres.mode = .program ∧ s.blk.tape.transport = .recording ∧ s.blk.tape.holding = none ∧
      (s.blk.pres.granted.any fun r => r.source != .cue) = x.2) ∧
    (∀ b ∈ [true, false], let s := owing 0x59 (recording fun t => { t with writing := some (writing 0), pausePending := b })
      s.Ok ∧ s.blk.tape.transport = .recording ∧ s.blk.tape.writing = some (writing 0) ∧ (writing 0).countsLeft = 0 ∧
      (writing 0).cue.ticket = some ticket0 ∧ s.blk.tape.pausePending = b ∧ s.blk.tape.holding = none ∧
      s.blk.tape.motionWaiting = none) := by
  decide +kernel

/-- The first word of a pass, over a map that it truncates or leaves; a word that finds the map full, or the count at the
last entry's. -/
def recordings : List State :=
  [recording fun t => { t with pass := some { wrote := false, next := none }, count := 8 },
    recording fun t => { t with pass := some { wrote := false, next := none }, map := [] },
    recording fun t => { t with count := 8 },
    recording fun t => { t with count := 300, map := (List.range 256).map fun k => entry k (k % 16) }]

theorem test_met_Recording_begun :
    (∀ s ∈ recordings, s.Takes 0x59 ∧ s.blk.pres.mode = .program ∧ s.blk.tape.transport = .recording ∧
      s.blk.tape.holding = none ∧ s.blk.tape.writing = none ∧ s.blk.pres.granted = none ∧
      s.blk.tape.pass.isSome = true ∧ (s.blk.tape.pass.all fun p => !p.wrote || p.next.isSome) = true) ∧
    (∀ h ∈ [none, some owed], let s := owing 0x59 (recording fun t => { t with writing := some (writing 0), holding := h })
      s.Ok ∧ s.Takes 0x51 ∧ s.blk.tape.pausePending = false ∧ s.blk.tape.holding = h ∧ s.blk.tape.pass ≠ none ∧
      s.blk.tape.writing = some (writing 0) ∧ s.blk.tape.pauseWaiting = [] ∧ s.blk.tape.motionWaiting = none ∧
      s.blk.tape.held = none) := by
  decide +kernel

/-- What follows: the map after the truncation, the reasons of MAP_FULL, and none of it in the map. -/
theorem test_recordings : (recordings.map fun s => after (exec (.cueInsert 7 10 255) s) fun t =>
    match t.blk.tape.writing with
    | some y => (y.seq, y.inMap, t.blk.tape.map.length, t.port.out.length) ==
        (if s.blk.tape.map.length = 256 then (15, false, 256, 1)
         else if s.blk.tape.pass = some { wrote := true, next := some 15 } then (15, false, 1, 1) else (0, true, 1, 0))
    | none => false) = [true, true, true, true] := by decide +kernel

/-- The word of an inserted MARK goes on the tape with the check of the manual's register. -/
theorem test_cueInsert_word :
    after (exec (.cueInsert 7 10 255) (recording id)) (fun t =>
      (t.blk.tape.writing.map fun y => (y.word, y.seq, y.inMap)) == some (0xAFF000 + 15 * 256 +
        BitVec.ofNat 24 (cueCheck 10 255), 15, true)) = true := by decide +kernel

theorem test_met_TapeEvents : ∀ tr ∈ [Transport.noTape, .stopped, .playing, .windingFwd, .windingRev],
  let s := tape tr id
  s.Ok ∧ s.blk.tape.transport = tr ∧ s.blk.tape.held = none ∧ s.blk.tape.pass = none ∧
    s.blk.tape.pausePending = false ∧ s.blk.tape.pauseWaiting = [] ∧ s.blk.tape.present = true ∧
    s.blk.tape.inMotion = (tr == .playing || tr == .windingFwd || tr == .windingRev) := by
  decide +kernel

/-- A word of kind 1, argument 0 and a sequence, with its check. -/
def cueBits (seq check : Nat) : BitVec 24 := BitVec.ofNat 24 (1 * 2 ^ 20 + seq * 2 ^ 8 + check)

/-- The transport plays in SHOW mode with an expected sequence. -/
def playing (expected : Option Nat) (policy : CuePolicy) : State :=
  (tape .playing fun t => { t with expected := expected, policy := policy }).setPres fun p => { p with mode := .show }

theorem test_met_CueWord :
    r0.Ok ∧ r0.blk.tape.transport ≠ .playing ∧
    (∀ e ∈ [none, some 0, some 15, some 4], ∀ q ∈ [CuePolicy.follow, .stop], (playing e q).Ok ∧
      (playing e q).blk.tape.transport = .playing ∧ (playing e q).blk.tape.runOut = none ∧
      (playing e q).blk.tape.bad ≤ 255 ∧ (playing e q).blk.tape.duplicates ≤ 255 ∧ (playing e q).blk.tape.taken ≤ 255 ∧
      (playing e q).blk.pres.mode = .show ∧ (playing e q).arb.authority.cue.motion = true ∧
      (playing e q).arb.cue.length < 8 ∧ (playing e q).blk.tape.motionWaiting = none ∧
      (playing e q).blk.tape.expected = e ∧ (playing e q).blk.tape.policy = q) ∧
    (∀ n ∈ [0, 15], wordCheck (cueBits n 87) = cueCheck (wordKind (cueBits n 87)) (wordArg (cueBits n 87)) ∧
      wordKind (cueBits n 87) = 1 ∧ wordSeq (cueBits n 87) = n) ∧
    cueKindOf 1 = some .advance ∧
    wordCheck (cueBits 0 86) ≠ cueCheck (wordKind (cueBits 0 86)) (wordArg (cueBits 0 86)) := by
  decide +kernel

/-- A word in step is posted; the same word again is a duplicate. -/
theorem test_cueWord :
    after (exec (.cueWordDelivered (cueBits 15 87)) (playing (some 15) .follow)) (fun t =>
      t.arb.cue.length == 1 && t.blk.tape.expected == some 0 && t.blk.tape.taken == 1) = true ∧
    after (exec (.cueWordDelivered (cueBits 15 87)) (playing (some 0) .follow)) (fun t =>
      t.arb.cue.length == 0 && t.blk.tape.duplicates == 1) = true := by decide +kernel

/-! ### Remote and pair link -/

def remote (f : Remote → Remote) : State := r0.modRemote f

theorem test_met_RemoteSettings :
    r0.Takes 0x68 ∧ (remote fun r => { r with digits := [1, 2, 3] }).Takes 0x68 ∧
    (remote fun r => { r with digits := [1, 2, 3] }).blk.remote.digits.length ≤ 3 ∧ (15 : Byte).toNat ≤ 15 ∧
    15 < (16 : Byte).toNat ∧ 1 < (2 : Byte).toNat ∧ r0.blk.remote.wiredEnable = true := by
  decide +kernel

/-- ADVANCE is held on the FWD line. -/
def fwdHeld : HeldKey := { key := .advance, repeats := true, left := 0, dropReported := false }

def remoteQueue (n : Nat) (s : State) : State := State.setArb s fun a =>
  { a with remote := List.replicate n { source := .remote, kind := .advance, arg := none, ticket := none } }

theorem test_met_RemoteKeys :
    (∀ n ∈ [0, 1], let s := remoteQueue n (remote fun r => { r with fwd := some fwdHeld })
     s.Ok ∧ s.blk.lcu.power ≠ .standby ∧ s.blk.remote.digits = [] ∧ s.arb.authority.remote.motion = true ∧
     s.arb.remote.length < 2 ∧ s.blk.remote.wiredEnable = true ∧ s.blk.remote.fwdActive = false ∧
     s.blk.remote.irEnable = true ∧ (0 : BitVec 4).toNat = s.blk.remote.channel ∧ s.blk.remote.fwd = some fwdHeld) ∧
    (let s := State.setArb r0 fun a => { a with authority := { a.authority with
       remote := { motion := false, level := true, edit := false, tape := true } } }
     s.Ok ∧ s.blk.lcu.power ≠ .standby ∧ s.blk.remote.digits = [] ∧ s.arb.authority.remote.motion = false ∧
     s.blk.remote.wiredEnable = true ∧ s.blk.remote.fwdActive = false) ∧
    (let s := remote fun r => { r with digits := [9, 0] }
     s.Ok ∧ s.blk.lcu.power ≠ .standby ∧ s.blk.remote.irEnable = true ∧ s.blk.remote.digits.length < 3) ∧
    (let s := r0.setLcu fun c => { c with power := .standby }
     s.Ok ∧ s.blk.lcu.power = .standby ∧ s.arb.authority.remote.level = true ∧ s.blk.lcu.standbyWaiting = [] ∧
     s.blk.remote.irEnable = true) ∧
    (15 : BitVec 4).toNat ≠ r0.blk.remote.channel := by
  decide +kernel

/-- Station 7, a member of group 11, with some bytes of a frame taken. -/
def frameOf (bytes : List Byte) (f : Link → Link) : State := r0.modLink fun l => f { l with
  station := 7, group11 := true, assembly := some { address := 7, bytes := bytes, state := .accepted } }

def linkQueue (n : Nat) (s : State) : State := State.setArb s fun a =>
  { a with link := List.replicate n { source := .link, kind := .advance, arg := none, ticket := none } }

theorem test_met_LinkBytes :
    (frameOf [] id).Ok ∧ (frameOf [] id).blk.link.station ≤ 7 ∧
    (frameOf [] id).blk.link.assembly = some { address := 7, bytes := [], state := .accepted } ∧
    (∀ n ∈ [3, 4], (linkQueue n (frameOf [] id)).Ok ∧ (linkQueue n (frameOf [] id)).blk.link.overrun = false ∧
      (linkQueue n (frameOf [] id)).arb.link.length = n) ∧
    (let s := frameOf [] fun l => { l with overrun := true }
     s.Ok ∧ s.blk.link.overrun = true) ∧
    (7 : Byte).toNat ≤ 7 ∧ 8 < (9 : Byte).toNat ∧
    (∀ xs ∈ [([] : List Byte), [1], [1, 2]], (frameOf (6 :: xs) id).Ok ∧ xs.length < argCount (6 : Byte).toNat ∧
      (frameOf (6 :: xs) id).blk.link.formatErrors ≤ 255) ∧
    ([1, 2, 3] : List Byte).length = argCount (6 : Byte).toNat ∧
      ([] : List Byte).length = argCount (1 : Byte).toNat := by
  decide +kernel

/-- A STOP: the frames it drops, those it counts as format errors, and those it leaves to their own command. -/
theorem test_stop :
    (∀ x ∈ [(([] : List Byte), FrameState.accepted, true, 0), ([2], .refused, true, 0), ([9], .malformed, true, 1),
        ([6, 1, 2], .accepted, true, 1), ([4, 3], .accepted, true, 1), ([5, 2], .accepted, true, 1),
        ([4, 2], .accepted, false, 0), ([5, 1], .accepted, false, 0), ([1], .accepted, false, 0),
        ([6, 1, 2, 3], .accepted, false, 0)],
      let s := (frameOf [] id).modLink fun l => { l with
        assembly := some { address := 7, bytes := x.1, state := x.2.1 } }
      s.Ok ∧ s.blk.link.formatErrors ≤ 255 ∧ after (exec (.incompleteFrameDiscard false) s) (fun t =>
        t.blk.link.assembly.isNone == x.2.2.1 && t.blk.link.formatErrors == x.2.2.2) = true) := by
  decide +kernel

theorem test_met_LinkRequests :
    (∀ xs ∈ [([1] : List Byte), [2], [3, 200], [4, 2]], let s := linkQueue 3 (frameOf xs id)
     s.Ok ∧ s.arb.authority.link.motion = true ∧ s.arb.authority.link.level = true ∧ s.arb.link.length < 4 ∧
     s.blk.link.completeFrame = some xs) ∧
    (2 : Byte).toNat ≤ 2 ∧
    (let s := State.setArb (frameOf [1] id) fun a => { a with authority := { a.authority with
       link := { motion := false, level := true, edit := false, tape := true } } }
     s.Ok ∧ s.arb.authority.link.motion = false ∧ s.blk.link.completeFrame = some [1]) ∧
    (∀ xs ∈ [([2] : List Byte), [3, 200], [4, 2]], let s := State.setArb (frameOf xs id) fun a => { a with
       authority := { a.authority with link := denied } }
     s.Ok ∧ s.arb.authority.link.motion = false ∧ s.arb.authority.link.level = false ∧
     s.blk.link.completeFrame = some xs) ∧
    (frameOf [4, 3] id).Ok ∧ (frameOf [4, 3] id).blk.link.completeFrame = some [4, 3] ∧ 2 < (3 : Byte).toNat ∧
    (frameOf [8] id).Ok ∧ (frameOf [8] id).blk.link.completeFrame = some [8] ∧
    r0.Ok ∧ r0.blk.link.completeFrame = none := by
  decide +kernel

/-- A cursor is set, and LINK holds the EDIT authority or not. -/
def cursorAt (bytes : List Byte) (t : CursorTable) (edit : Bool) : State :=
  let index := if t == .position then 0 else 2
  State.setArb ((frameOf bytes fun l => { l with cursor := { table := t, index := index, field := 3, step := true } }).setPres
    showing) fun a => { a with authority := { a.authority with
      link := { motion := true, level := true, edit := edit, tape := true } } }

theorem test_met_LinkCursor :
    (∀ xs ∈ [([5, 1] : List Byte), [8], [6, 0, 200, 6], [6, 1, 99, 131], [6, 2, 0, 3], [6, 3, 0, 140], [6, 3, 1, 0],
       [6, 4, 0, 0], [6, 0, 201, 0], [6, 0, 0, 7], [6, 1, 100, 0], [6, 2, 99, 4], [6, 3, 0, 13]],
     (frameOf xs id).Ok ∧ (frameOf xs id).blk.link.readHold = none ∧
     (frameOf xs id).blk.link.completeFrame = some xs) ∧
    (∀ t ∈ [CursorTable.frame, .position], ∀ e ∈ [true, false], (cursorAt [7, 10] t e).Ok ∧
      (cursorAt [7, 10] t e).blk.link.readHold = none ∧ (cursorAt [7, 10] t e).blk.link.completeFrame = some [7, 10] ∧
      (cursorAt [7, 10] t e).arb.authority.link.edit = e ∧ (cursorAt [7, 10] t e).blk.link.cursor.table = t) ∧
    (let s := cursorAt [7, 10] .frame true
     s.blk.pres.frame? 2 = some (frame .b 2) ∧ (frame .b 2).write 3 10 = some { frame .b 2 with level := 10 } ∧
     s.arb.lock.lo = 0 ∧ s.blk.pres.commitDeferred = false ∧ s.blk.pres.inTransition 2 = false ∧
     s.blk.pres.current = 1 ∧ s.blk.pres.preload = none ∧ s.blk.pres.loopOn = false) := by
  decide +kernel

/-- A write to a frame that is locked, in transition, beyond the table or out of its field's range; a write to a slot with
no tray, outside the tray, of another field, of a value, and on a slot that a ladder works on. -/
theorem test_met_LinkCursor_refused :
    (let s := State.setArb (cursorAt [7, 10] .frame true) fun a => { a with lock := { lo := 2, hi := 2, invert := false } }
     s.Ok ∧ s.blk.link.readHold = none ∧ s.arb.lock.lo = 2) ∧
    (let s := (cursorAt [7, 10] .frame true).setPres fun p => { p with transition := some {
       target := 2, cls := 2, stand := .pending, excludedA := none, excludedB := none, serving := some .b
       reselected := false, tookOver := false, past := false, lampLost := false, behindStop := false } }
     s.Ok ∧ (s.blk.pres.transition.any fun x => x.target == s.blk.link.cursor.index) = true) ∧
    (let s := (cursorAt [7, 10] .frame true).modLink fun l => { l with cursor := { l.cursor with index := 3 } }
     s.Ok ∧ s.blk.pres.frames.length < s.blk.link.cursor.index) ∧ (frame .b 2).write 3 9 = none ∧
    (∀ t ∈ [CursorTable.slotA, .slotB], (cursorAt [7, 7] t true).Ok ∧ (cursorAt [7, 7] t true).blk.deckA.map = none ∧
      (cursorAt [7, 7] t true).blk.link.cursor.table = t ∧ (cursorAt [7, 7] t true).arb.authority.link.edit = true) := by
  decide +kernel

/-- The cursor stands at the fault count of a slot, and a value is written. -/
def slotCursor (v : Byte) (index : Nat) (s : State) : State :=
  State.setArb (s.modLink fun l => { l with
    station := 7, cursor := { table := .slotA, index := index, field := 1, step := true }
    assembly := some { address := 7, bytes := [7, v], state := .accepted } }) fun a =>
      { a with authority := { a.authority with link := { motion := true, level := true, edit := true, tape := true } } }

theorem test_met_LinkCursor_slot :
    (∀ v ∈ [(0 : Byte), 7, 1], ∀ n ∈ [3, 4], ∀ k ∈ [0, 63, 64], let s := slotCursor v k (faulty n)
      s.Ok ∧ s.blk.link.readHold = none ∧ s.blk.link.completeFrame = some [7, v] ∧
      s.arb.authority.link.edit = true ∧ s.blk.deckA.op? = none ∧ s.blk.deckA.map = some { freshMap .short with
        slots := (freshMap .short).slots.set 63 { presence := .present, faults := n, pass := none } }) ∧
    (slotCursor 0 63 laddering).Ok ∧ (slotCursor 0 63 laddering).blk.deckA.ladderOn 63 = true := by
  decide +kernel

/-- Where the cursor goes after a write: at the ends of the two trays, of the frame table, and nowhere with the step bit
off or on the show position. -/
theorem test_cursorSteps :
    ([(CursorTable.frame, 200, true, 1), (.frame, 2, true, 3), (.frame, 2, false, 2), (.slotA, 63, true, 0),
      (.slotA, 62, true, 63), (.slotB, 99, true, 0), (.slotB, 63, true, 64), (.position, 0, true, 0)].all fun x =>
        after (exec .cursorWrite (State.modLink (trays.setPres showing) fun l => { l with
          station := 7, assembly := some { address := 7, bytes := [7, 10], state := .accepted }
          cursor := { table := x.1, index := x.2.1, field := 3, step := x.2.2.1 } })) fun t =>
            t.blk.link.cursor.index == x.2.2.2) = true := by decide +kernel

/-- A deferred commit covers frame 2, and the cursor stands there. -/
def deferredRead (hold : Option Nat) : State := (owing 0x14 (frameOf [] fun l => { l with
  readSelect := .cursor, cursor := { table := .frame, index := 2, field := 0, step := false }
  readHold := hold })).setPres fun p => { showing p with edit := .deferred 1 [frame .a 1, frame .b 2] 1 ticket0 }

theorem test_met_LinkReads :
    r0.blk.link.station = 0 ∧ (frameOf [] id).blk.link.station ≠ 0 ∧
    (7 : BitVec 7).toNat = (frameOf [] id).blk.link.station ∧ (frameOf [] id).blk.link.readSelect = .status ∧
    (let s := frameOf [] fun l => { l with readSelect := .cursor }
     s.Ok ∧ s.blk.link.readSelect = .cursor ∧ s.blk.pres.commitDeferred = false) ∧
    (∀ x ∈ [(CursorTable.frame, 1, 0), (.frame, 200, 6), (.slotA, 0, 0), (.slotB, 99, 3), (.position, 0, 0),
        (.position, 0, 12)],
      let s := (trays.setPres showing).modLink fun l => { l with
        station := 7, readSelect := .cursor, cursor := { table := x.1, index := x.2.1, field := x.2.2, step := true } }
      s.Ok ∧ s.blk.link.station = 7 ∧ s.blk.link.readSelect = .cursor ∧ s.blk.pres.commitDeferred = false) ∧
    (let s := deferredRead none
     s.blk.link.readSelect = .cursor ∧ s.blk.link.cursor.table = .frame ∧ 1 ≤ s.blk.link.cursor.index ∧
     s.blk.link.cursor.index < 1 + 2 ∧ s.blk.link.readHold = none) ∧
    (deferredRead (some 0)).Ok ∧ (deferredRead (some 0)).blk.link.readHold.isSome = true ∧
    (deferredRead (some 0)).Takes 0x6A ∧
    r0.Takes 0x6A ∧ r0.blk.link.readHold = none ∧ (7 : Byte).toNat ≤ 7 ∧ (15 : Byte).toNat ≤ 15 ∧
    7 < (8 : Byte).toNat ∧ 15 < (16 : Byte).toNat := by
  decide +kernel

end Sys2Proof.Tests
end

section
/-! PROOFS. TAPE_ZERO (R147) and the three cue map commands (R159): what each does to the working copy, and from there
the state it leaves when it is answered at its taking. -/

namespace Sys2Proof.Machine

/-! ## Tape commands answered at their taking -/

/-- A command that writes the tape unit alone and is answered at once leaves that write and its response. -/
theorem State.takeDirect_setTape (s : State) (code : Nat) (tag : Byte) (cmd : Ticket → Work → Work) (g : Tape → Tape)
    (status : Status) (fs : List Byte) (h : s.Takes code)
    (hw : cmd (s.ticket tag) (Work.start s.blk) =
      ((Work.start s.blk).modTape g).answer (s.ticket tag) status fs)
    (hl : runLength fs.length ≤ places code) :
    s.takeDirect code tag (fun t s => s.run (cmd t)) = (s.answered code tag status fs).setTape g := by
  have ⟨⟨⟨_, _, hread⟩, _⟩, _⟩ := h
  exact s.takeDirect_answers code tag cmd status fs { s.blk with tape := g s.blk.tape } h hw hread hl

/-- A command that only answers leaves nothing but its response. -/
theorem State.takeDirect_answered (s : State) (code : Nat) (tag : Byte) (cmd : Ticket → Work → Work)
    (status : Status) (fs : List Byte) (h : s.Takes code)
    (hw : cmd (s.ticket tag) (Work.start s.blk) = (Work.start s.blk).answer (s.ticket tag) status fs)
    (hl : runLength fs.length ≤ places code) :
    s.takeDirect code tag (fun t s => s.run (cmd t)) = s.answered code tag status fs :=
  s.takeDirect_setTape code tag cmd id status fs h hw hl

/-- A command that only refuses, with no result fields, leaves nothing but its response. -/
theorem State.takeDirect_refused (s : State) (code : Nat) (tag : Byte) (cmd : Ticket → Work → Work) (status : Status)
    (h : s.Takes code)
    (hw : cmd (s.ticket tag) (Work.start s.blk) = (Work.start s.blk).answer (s.ticket tag) status []) :
    s.takeDirect code tag (fun t s => s.run (cmd t)) = s.answered code tag status [] :=
  s.takeDirect_answered code tag cmd status [] h hw (one_le_places code)

/-! ## TAPE_ZERO (R147) -/

/-- The effect of a TAPE_ZERO that is taken. -/
def Tape.zeroed (x : Tape) : Tape := { x with count := 0, wound := true }

theorem exec_tapeZero (tag : Byte) (s : State) :
    exec (.tapeZero tag) s = .next (s.takeDirect 0x55 tag fun t s => s.run (cmdTapeZero t)) := by
  rfl

theorem cmdTapeZero_zeroed (t : Ticket) (w : Work)
    (h : w.st.tape.transport = .noTape ∨ w.st.tape.transport = .stopped ∨
      (w.st.tape.transport = .paused .playing ∧ w.st.tape.held = none)) :
    cmdTapeZero t w = (w.modTape Tape.zeroed).answer t .ok [] := by
  unfold cmdTapeZero
  rcases h with h | h | ⟨h, hheld⟩
  · rw [h]; rfl
  · rw [h]; rfl
  · rw [h, hheld]; rfl

theorem cmdTapeZero_moving (t : Ticket) (w : Work) (h : w.st.tape.inMotion = true) :
    cmdTapeZero t w = w.answer t .wrongState [] := by
  unfold Tape.inMotion at h
  unfold cmdTapeZero
  cases htr : w.st.tape.transport with
  | noTape | stopped | paused => simp [htr] at h
  | playing | recording | windingFwd | windingRev => rfl

theorem cmdTapeZero_pausedRecording (t : Ticket) (w : Work) (h : w.st.tape.transport = .paused .recording) :
    cmdTapeZero t w = w.answer t .wrongState [] := by
  unfold cmdTapeZero
  rw [h]

theorem cmdTapeZero_held (t : Ticket) (w : Work) (h : w.st.tape.transport = .paused .playing)
    (hheld : w.st.tape.held ≠ none) : cmdTapeZero t w = w.answer t .inUse [] := by
  obtain ⟨c, hc⟩ := Option.ne_none_iff_exists'.1 hheld
  unfold cmdTapeZero
  rw [h, hc]

/-- Settles O46: the transport states in which a TAPE_ZERO acts, and those in which it is refused, one lemma each. -/
theorem tapeZero : Obligations.TapeZero := by
  unfold Obligations.TapeZero
  intro s tag htakes
  simp only [exec_tapeZero, Host.Outcome.next.injEq]
  refine ⟨fun h => ?_, fun h => ?_, fun h hheld => ?_⟩
  · exact s.takeDirect_setTape 0x55 tag cmdTapeZero Tape.zeroed .ok [] htakes (cmdTapeZero_zeroed _ _ h)
      (one_le_places _)
  · refine s.takeDirect_refused 0x55 tag cmdTapeZero .wrongState htakes ?_
    rcases h with hmoving | ⟨hpaused, _⟩
    · exact cmdTapeZero_moving _ _ hmoving
    · exact cmdTapeZero_pausedRecording _ _ hpaused
  · exact s.takeDirect_refused 0x55 tag cmdTapeZero .inUse htakes (cmdTapeZero_held _ _ h hheld)

/-! ## CUE_MAP_READ (R159) -/

theorem exec_cueMapRead (tag : Byte) (first : BitVec 16) (n : Byte) (s : State) :
    exec (.cueMapRead tag first n) s =
      .next (s.takeDirect 0x5A tag fun t s => s.run (cmdCueMapRead t first.toNat n.toNat)) := by
  rfl

/-- The result fields of a CUE_MAP_READ of `n` entries from the place `first`, which counts from 1. -/
def mapFields (map : List CueEntry) (first n : Nat) : List Byte :=
  let es := (map.drop (first - 1)).take n
  word map.length ++ byte es.length :: es.flatMap CueEntry.bytes

theorem cmdCueMapRead_badArgument (t : Ticket) (first n : Nat) (w : Work)
    (h : 8 < n ∨ (1 ≤ n ∧ (first = 0 ∨ w.st.tape.map.length < first))) :
    cmdCueMapRead t first n w = w.answer t .badArgument [] := by
  unfold cmdCueMapRead
  rcases h with hn | ⟨hn, hfirst⟩
  · simp only [hn, if_true]
  · simp only [hfirst, Nat.ne_of_gt hn, if_true, if_false, ite_self]

theorem cmdCueMapRead_length (t : Ticket) (first : Nat) (w : Work) :
    cmdCueMapRead t first 0 w = w.answer t .ok (word w.st.tape.map.length) := by
  rfl

theorem cmdCueMapRead_entries (t : Ticket) (first n : Nat) (w : Work) (hn : 1 ≤ n) (hn8 : n ≤ 8) (hfirst : 1 ≤ first)
    (hlast : first ≤ w.st.tape.map.length) :
    cmdCueMapRead t first n w = w.answer t .ok (mapFields w.st.tape.map first n) := by
  unfold cmdCueMapRead
  rw [if_neg (by omega), if_neg (by omega), if_neg (by omega)]
  rfl

theorem flatMap_bytes_length (es : List CueEntry) : (es.flatMap CueEntry.bytes).length = 6 * es.length := by
  induction es with
  | nil => rfl
  | cons e es ih =>
    simp only [List.flatMap_cons, List.length_append, List.length_cons, List.length_nil, CueEntry.bytes, word, ih]
    omega

/-- Eight entries of six bytes and the two counts fit the two records that R210 reserves for a CUE_MAP_READ. -/
theorem runLength_mapFields (map : List CueEntry) (first n : Nat) (hn : n ≤ 8) :
    runLength (mapFields map first n).length ≤ places 0x5A := by
  have hlen : (mapFields map first n).length ≤ 51 := by
    simp only [mapFields, List.length_append, List.length_cons, flatMap_bytes_length, word, List.length_take,
      List.length_nil]
    omega
  show runLength _ ≤ 2
  unfold runLength
  split <;> omega

theorem cueMapRead_cases (s : State) (tag : Byte) (first : BitVec 16) (n : Byte) (htakes : s.Takes 0x5A) :
    ((8 < n.toNat ∨ (1 ≤ n.toNat ∧ (first.toNat = 0 ∨ s.blk.tape.map.length < first.toNat))) →
      exec (.cueMapRead tag first n) s = .next (s.answered 0x5A tag .badArgument [])) ∧
    (n.toNat = 0 →
      exec (.cueMapRead tag first n) s = .next (s.answered 0x5A tag .ok (word s.blk.tape.map.length))) ∧
    (1 ≤ n.toNat → n.toNat ≤ 8 → 1 ≤ first.toNat → first.toNat ≤ s.blk.tape.map.length →
      exec (.cueMapRead tag first n) s =
        .next (s.answered 0x5A tag .ok (mapFields s.blk.tape.map first.toNat n.toNat))) := by
  simp only [exec_cueMapRead, Host.Outcome.next.injEq]
  refine ⟨fun h => ?_, fun hn => ?_, fun hn hn8 hfirst hlast => ?_⟩
  · exact s.takeDirect_refused 0x5A tag _ .badArgument htakes (cmdCueMapRead_badArgument _ _ _ _ h)
  · rw [hn]
    exact s.takeDirect_answered 0x5A tag _ .ok _ htakes (cmdCueMapRead_length _ _ _) (one_le_places _)
  · exact s.takeDirect_answered 0x5A tag _ .ok _ htakes (cmdCueMapRead_entries _ _ _ _ hn hn8 hfirst hlast)
      (runLength_mapFields _ _ _ hn8)

/-! ## CUE_MAP_LOAD (R159) -/

theorem exec_cueMapLoad (tag : Byte) (count : BitVec 16) (seq kind arg frame : Byte) (s : State) :
    exec (.cueMapLoad tag count seq kind arg frame) s =
      .next (s.takeDirect 0x5B tag fun t s =>
        s.run (cmdCueMapLoad t count.toNat seq.toNat kind.toNat arg.toNat frame.toNat)) := by
  rfl

/-- The arguments that R159 has a load refuse: a sequence, a kind or a frame out of range, or a count not above the last
entry's. -/
def badEntry (map : List CueEntry) (count seq kind frame : Nat) : Prop :=
  15 < seq ∨ kind < 1 ∨ 11 < kind ∨ 200 < frame ∨ ∃ e, map.getLast? = some e ∧ count ≤ e.count

/-- Kinds are 1 to 11 (R149). -/
theorem cueKindOf_eq_none_iff (n : Nat) : cueKindOf n = none ↔ n < 1 ∨ 11 < n := by
  unfold cueKindOf
  split
  case h_12 => simp only [imp_false, true_iff] at *; omega
  all_goals simp

theorem exists_cueKindOf {map : List CueEntry} {count seq kind frame : Nat} (h : ¬ badEntry map count seq kind frame) :
    ∃ k, cueKindOf kind = some k := by
  refine Option.ne_none_iff_exists'.1 fun hnone => h ?_
  rcases (cueKindOf_eq_none_iff kind).1 hnone with hlow | hhigh
  · exact .inr (.inl hlow)
  · exact .inr (.inr (.inl hhigh))

theorem cmdCueMapLoad_inUse (t : Ticket) (count seq kind arg frame : Nat) (w : Work) (h : w.st.tape.pass ≠ none) :
    cmdCueMapLoad t count seq kind arg frame w = w.answer t .inUse [] := by
  unfold cmdCueMapLoad
  exact if_pos (Option.isSome_iff_ne_none.2 h)

theorem cmdCueMapLoad_badArgument (t : Ticket) (count seq kind arg frame : Nat) (w : Work)
    (hpass : w.st.tape.pass = none) (h : badEntry w.st.tape.map count seq kind frame) :
    cmdCueMapLoad t count seq kind arg frame w = w.answer t .badArgument [] := by
  unfold cmdCueMapLoad
  simp only [hpass, Option.isSome_none, Bool.false_eq_true, if_false]
  cases hk : cueKindOf kind with
  | none => rfl
  | some k =>
    have hrange : ¬ (kind < 1 ∨ 11 < kind) := by
      rw [← cueKindOf_eq_none_iff, hk]
      exact Option.some_ne_none k
    refine if_pos ?_
    rcases h with hseq | hlow | hhigh | hframe | ⟨e, hlast, hcount⟩
    · exact .inl hseq
    · exact absurd (.inl hlow) hrange
    · exact absurd (.inr hhigh) hrange
    · exact .inr (.inl hframe)
    · exact .inr (.inr (by simpa [hlast] using hcount))

/-- With arguments in range the length of the map alone decides. -/
theorem cmdCueMapLoad_good (t : Ticket) (count seq kind arg frame : Nat) (w : Work) (k : CueKind)
    (hpass : w.st.tape.pass = none) (hgood : ¬ badEntry w.st.tape.map count seq kind frame)
    (hk : cueKindOf kind = some k) :
    cmdCueMapLoad t count seq kind arg frame w =
      if 256 ≤ w.st.tape.map.length then w.answer t .wrongState []
      else (w.modTape fun x => { x with
        map := x.map ++ [{ count := count, seq := seq, kind := k, arg := arg, frameAfter := frame }] }).answer t .ok
          (word (w.st.tape.map.length + 1)) := by
  unfold cmdCueMapLoad
  simp only [hpass, hk, Option.isSome_none, Bool.false_eq_true, if_false]
  refine (if_neg ?_).trans rfl
  rintro (hseq | hframe | hfalls)
  · exact hgood (.inl hseq)
  · exact hgood (.inr (.inr (.inr (.inl hframe))))
  · cases hlast : w.st.tape.map.getLast? with
    | none => simp [hlast] at hfalls
    | some e => exact hgood (.inr (.inr (.inr (.inr ⟨e, hlast, by simpa [hlast] using hfalls⟩))))

theorem cueMapLoad_cases (s : State) (tag : Byte) (count : BitVec 16) (seq kind arg frame : Byte)
    (htakes : s.Takes 0x5B) :
    (s.blk.tape.pass ≠ none →
      exec (.cueMapLoad tag count seq kind arg frame) s = .next (s.answered 0x5B tag .inUse [])) ∧
    (s.blk.tape.pass = none → badEntry s.blk.tape.map count.toNat seq.toNat kind.toNat frame.toNat →
      exec (.cueMapLoad tag count seq kind arg frame) s = .next (s.answered 0x5B tag .badArgument [])) ∧
    (s.blk.tape.pass = none → ¬ badEntry s.blk.tape.map count.toNat seq.toNat kind.toNat frame.toNat →
      256 ≤ s.blk.tape.map.length →
      exec (.cueMapLoad tag count seq kind arg frame) s = .next (s.answered 0x5B tag .wrongState [])) ∧
    (s.blk.tape.pass = none → ¬ badEntry s.blk.tape.map count.toNat seq.toNat kind.toNat frame.toNat →
      s.blk.tape.map.length < 256 → ∀ k, cueKindOf kind.toNat = some k →
      exec (.cueMapLoad tag count seq kind arg frame) s =
        .next ((s.answered 0x5B tag .ok (word (s.blk.tape.map.length + 1))).setTape fun x => { x with
          map := x.map ++ [{ count := count.toNat, seq := seq.toNat, kind := k, arg := arg.toNat
                             frameAfter := frame.toNat }] })) := by
  simp only [exec_cueMapLoad, Host.Outcome.next.injEq]
  refine ⟨fun hpass => ?_, fun hpass hbad => ?_, fun hpass hgood hfull => ?_, fun hpass hgood hroom k hk => ?_⟩
  · exact s.takeDirect_refused 0x5B tag _ .inUse htakes (cmdCueMapLoad_inUse _ _ _ _ _ _ _ hpass)
  · exact s.takeDirect_refused 0x5B tag _ .badArgument htakes (cmdCueMapLoad_badArgument _ _ _ _ _ _ _ hpass hbad)
  · obtain ⟨k, hk⟩ := exists_cueKindOf hgood
    exact s.takeDirect_refused 0x5B tag _ .wrongState htakes
      ((cmdCueMapLoad_good _ _ _ _ _ _ _ k hpass hgood hk).trans (if_pos hfull))
  · exact s.takeDirect_setTape 0x5B tag _ _ .ok _ htakes
      ((cmdCueMapLoad_good _ _ _ _ _ _ _ k hpass hgood hk).trans (if_neg (Nat.not_le.2 hroom)))
      (one_le_places _)

/-! ## CUE_MAP_CLEAR (R159) -/

theorem exec_cueMapClear (tag : Byte) (s : State) :
    exec (.cueMapClear tag) s = .next (s.takeDirect 0x5C tag fun t s => s.run (cmdCueMapClear t)) := by
  rfl

theorem cmdCueMapClear_inUse (t : Ticket) (w : Work) (h : w.st.tape.pass ≠ none) :
    cmdCueMapClear t w = w.answer t .inUse [] := by
  unfold cmdCueMapClear
  exact if_pos (Option.isSome_iff_ne_none.2 h)

theorem cmdCueMapClear_empties (t : Ticket) (w : Work) (h : w.st.tape.pass = none) :
    cmdCueMapClear t w = (w.modTape fun x => { x with map := [] }).answer t .ok [] := by
  unfold cmdCueMapClear
  exact if_neg (by simp [h])

theorem cueMapClear_cases (s : State) (tag : Byte) (htakes : s.Takes 0x5C) :
    (s.blk.tape.pass ≠ none → exec (.cueMapClear tag) s = .next (s.answered 0x5C tag .inUse [])) ∧
    (s.blk.tape.pass = none → exec (.cueMapClear tag) s =
      .next ((s.answered 0x5C tag .ok []).setTape fun x => { x with map := [] })) := by
  simp only [exec_cueMapClear, Host.Outcome.next.injEq]
  refine ⟨fun hpass => ?_, fun hpass => ?_⟩
  · exact s.takeDirect_refused 0x5C tag _ .inUse htakes (cmdCueMapClear_inUse _ _ hpass)
  · exact s.takeDirect_setTape 0x5C tag _ _ .ok _ htakes (cmdCueMapClear_empties _ _ hpass) (one_le_places _)

/-- Settles O50, one command of the cue map at a time. -/
theorem cueMap : Obligations.CueMap := by
  unfold Obligations.CueMap
  intro s tag first count n seq kind arg frame
  exact ⟨cueMapRead_cases s tag first n, cueMapLoad_cases s tag count seq kind arg frame, cueMapClear_cases s tag⟩

end Sys2Proof.Machine
end
